-- ==== Sys2Proof/Word.lean ====
section
/-! DEFINITION. The word types of DMTX-RSPE: codewords and field elements (R9, R100), register words (R9), host
byte addresses (R7 ADDR_W, R70). -/

namespace Sys2Proof

/-- A codeword or field element: an 8-bit unsigned value (R9). -/
abbrev Byte := BitVec 8

/-- A register word: 32 bits (R9, R7 DATA_W). -/
abbrev Word := BitVec 32

/-- A host byte address: 20 bits (R7 ADDR_W, R70). -/
abbrev Addr := BitVec 20

end Sys2Proof
end

