-- ==== Sys2Proof/Syntax.lean ====
section
/-! DEFINITION. The commands of RSPE-1 (R92), one constructor per row of the opcode map. GF commands take field elements;
GF_EXP takes an exponent, RS_GEN a correction length, RS_REM and RS_SYN a block index, each an integer (R91). -/

namespace Sys2Proof

/-- One command (R92). -/
inductive Instr where
  /-- NOP (R102) -/
  | nop
  /-- GF_ADD a, b (R103) -/
  | gfAdd (a b : Byte)
  /-- GF_MUL a, b (R104) -/
  | gfMul (a b : Byte)
  /-- GF_DIV a, b (R105) -/
  | gfDiv (a b : Byte)
  /-- GF_EXP e (R106) -/
  | gfExp (e : Nat)
  /-- GF_LOG a (R107) -/
  | gfLog (a : Byte)
  /-- RS_GEN s (R121) -/
  | rsGen (s : Nat)
  /-- RS_ENC (R126) -/
  | rsEnc
  /-- RS_REM k (R128) -/
  | rsRem (k : Nat)
  /-- RS_SYN k (R129) -/
  | rsSyn (k : Nat)
  /-- PL_CLEAR (R152) -/
  | plClear
  /-- PL_FINDER (R153) -/
  | plFinder
  /-- PL_START (R168) -/
  | plStart
  /-- PL_STEP (R169) -/
  | plStep
  /-- PL_RUN (R170) -/
  | plRun
  /-- PL_FIXUP (R172) -/
  | plFixup
  /-- SYMBOL (R200) -/
  | symbol
  deriving DecidableEq, Repr

end Sys2Proof
end

