-- ==== Sys2Proof/WellFormed.lean ====
section
/-! DEFINITION. Which commands can be written as a word: every operand is an unsigned 8-bit number (R91, R95). -/

namespace Sys2Proof

/-- A command is well formed when each integer operand fits its 8-bit field: "an operand outside 0..255 is an assembly
error" (R95). Field elements are 8 bits by type. -/
def Instr.wf : Instr → Bool
  | .nop | .gfAdd _ _ | .gfMul _ _ | .gfDiv _ _ | .gfLog _ => true
  | .gfExp e => decide (e < 256)
  | .rsGen s => decide (s < 256)
  | .rsRem k => decide (k < 256)
  | .rsSyn k => decide (k < 256)
  | .rsEnc | .plClear | .plFinder | .plStart | .plStep | .plRun | .plFixup | .symbol => true

end Sys2Proof
end

