-- ==== Sys2Proof/Decode.lean ====
section
/-! DEFINITION. Format F0 and the opcode map (R90 to R94), the encoder, and the assembler with its pseudo-commands
(R95, R97). -/

namespace Sys2Proof

/-- OP, bits 7:0 (R90). -/
def opField (w : Word) : Byte := w.extractLsb' 0 8

/-- A, bits 15:8 (R90). -/
def aField (w : Word) : Byte := w.extractLsb' 8 8

/-- B, bits 23:16 (R90). -/
def bField (w : Word) : Byte := w.extractLsb' 16 8

/-- Z, bits 31:24, reserved, must be 0 (R90). -/
def zField (w : Word) : Byte := w.extractLsb' 24 8

/-- The two ways a command word is illegal (R93). The machine treats both as ILLEGAL_OP. -/
inductive Illegal where
  /-- OP is not in the opcode map. -/
  | unknownOp
  /-- A reserved bit is set: Z, or an operand field the command does not use. -/
  | reservedBit
  deriving DecidableEq, Repr

/-- A command that uses no operand: A and B must be 0 (R93). -/
def noOperand (w : Word) (i : Instr) : Except Illegal Instr :=
  if aField w = 0 ∧ bField w = 0 then .ok i else .error .reservedBit

/-- A command that uses A only: B must be 0 (R93). -/
def oneOperand (w : Word) (i : Byte → Instr) : Except Illegal Instr :=
  if bField w = 0 then .ok (i (aField w)) else .error .reservedBit

/-- Decode a command word: total, rejecting by name (R92, R93, R94). -/
def decode (w : Word) : Except Illegal Instr :=
  if zField w ≠ 0 then .error .reservedBit
  else match (opField w).toNat with
    | 0x00 => noOperand w .nop
    | 0x01 => .ok (.gfAdd (aField w) (bField w))
    | 0x02 => .ok (.gfMul (aField w) (bField w))
    | 0x03 => .ok (.gfDiv (aField w) (bField w))
    | 0x04 => oneOperand w (fun a => .gfExp a.toNat)
    | 0x05 => oneOperand w .gfLog
    | 0x10 => oneOperand w (fun a => .rsGen a.toNat)
    | 0x11 => noOperand w .rsEnc
    | 0x12 => oneOperand w (fun a => .rsRem a.toNat)
    | 0x13 => oneOperand w (fun a => .rsSyn a.toNat)
    | 0x20 => noOperand w .plClear
    | 0x21 => noOperand w .plFinder
    | 0x22 => noOperand w .plStart
    | 0x23 => noOperand w .plStep
    | 0x24 => noOperand w .plRun
    | 0x25 => noOperand w .plFixup
    | 0x30 => noOperand w .symbol
    | _ => .error .unknownOp

/-- The instruction the decoder reads from a table row's word: the word's bits at and above `nbits` are 0. -/
def decodeTableWord (nbits w : Nat) : Option Instr :=
  (decode (BitVec.ofNat 32 (w % 2 ^ nbits))).toOption

/-- The operation code of a command (R92). -/
def opcode : Instr → Byte
  | .nop => 0x00
  | .gfAdd _ _ => 0x01
  | .gfMul _ _ => 0x02
  | .gfDiv _ _ => 0x03
  | .gfExp _ => 0x04
  | .gfLog _ => 0x05
  | .rsGen _ => 0x10
  | .rsEnc => 0x11
  | .rsRem _ => 0x12
  | .rsSyn _ => 0x13
  | .plClear => 0x20
  | .plFinder => 0x21
  | .plStart => 0x22
  | .plStep => 0x23
  | .plRun => 0x24
  | .plFixup => 0x25
  | .symbol => 0x30

/-- The A field of a command (R91, R92); 0 where it is unused. -/
def operandA : Instr → Byte
  | .gfAdd a _ | .gfMul a _ | .gfDiv a _ | .gfLog a => a
  | .gfExp n | .rsGen n | .rsRem n | .rsSyn n => BitVec.ofNat 8 n
  | .nop | .rsEnc | .plClear | .plFinder | .plStart | .plStep | .plRun | .plFixup | .symbol => 0

/-- The B field of a command (R91, R92); 0 where it is unused. -/
def operandB : Instr → Byte
  | .gfAdd _ b | .gfMul _ b | .gfDiv _ b => b
  | .gfExp _ | .gfLog _ | .rsGen _ | .rsRem _ | .rsSyn _ => 0
  | .nop | .rsEnc | .plClear | .plFinder | .plStart | .plStep | .plRun | .plFixup | .symbol => 0

/-- The word of a command: Z = 0, then B, A and OP (R90, R95: w = OP + 256*a + 65536*b). -/
def encode (i : Instr) : Word :=
  (0#8 ++ operandB i) ++ (operandA i ++ opcode i)

/-- One row of the opcode map: a mnemonic with its match and mask (R92). -/
structure OpRow where
  mnemonic : String
  matchBits : Word
  mask : Word
  deriving DecidableEq, Repr

/-- The opcode map as the spec prints it (R92), for the claim that `decode` agrees with it. -/
def opcodeMap : List OpRow := [
  ⟨"NOP", 0x00000000, 0xFFFFFFFF⟩,
  ⟨"GF_ADD", 0x00000001, 0xFF0000FF⟩,
  ⟨"GF_MUL", 0x00000002, 0xFF0000FF⟩,
  ⟨"GF_DIV", 0x00000003, 0xFF0000FF⟩,
  ⟨"GF_EXP", 0x00000004, 0xFFFF00FF⟩,
  ⟨"GF_LOG", 0x00000005, 0xFFFF00FF⟩,
  ⟨"RS_GEN", 0x00000010, 0xFFFF00FF⟩,
  ⟨"RS_ENC", 0x00000011, 0xFFFFFFFF⟩,
  ⟨"RS_REM", 0x00000012, 0xFFFF00FF⟩,
  ⟨"RS_SYN", 0x00000013, 0xFFFF00FF⟩,
  ⟨"PL_CLEAR", 0x00000020, 0xFFFFFFFF⟩,
  ⟨"PL_FINDER", 0x00000021, 0xFFFFFFFF⟩,
  ⟨"PL_START", 0x00000022, 0xFFFFFFFF⟩,
  ⟨"PL_STEP", 0x00000023, 0xFFFFFFFF⟩,
  ⟨"PL_RUN", 0x00000024, 0xFFFFFFFF⟩,
  ⟨"PL_FIXUP", 0x00000025, 0xFFFFFFFF⟩,
  ⟨"SYMBOL", 0x00000030, 0xFFFFFFFF⟩]

/-- A word selects a row when (w AND mask) = match (R92). -/
def OpRow.selects (r : OpRow) (w : Word) : Bool := w &&& r.mask == r.matchBits

/-- The mnemonic of a command (R92). -/
def mnemonic : Instr → String
  | .nop => "NOP"
  | .gfAdd _ _ => "GF_ADD"
  | .gfMul _ _ => "GF_MUL"
  | .gfDiv _ _ => "GF_DIV"
  | .gfExp _ => "GF_EXP"
  | .gfLog _ => "GF_LOG"
  | .rsGen _ => "RS_GEN"
  | .rsEnc => "RS_ENC"
  | .rsRem _ => "RS_REM"
  | .rsSyn _ => "RS_SYN"
  | .plClear => "PL_CLEAR"
  | .plFinder => "PL_FINDER"
  | .plStart => "PL_START"
  | .plStep => "PL_STEP"
  | .plRun => "PL_RUN"
  | .plFixup => "PL_FIXUP"
  | .symbol => "SYMBOL"

/-- The command an assembler line names: a mnemonic of R95, or a pseudo-command of R97 that is one command, with its
operands. Field elements are taken modulo 256 here; `assemble` rejects an operand outside 0..255 first. -/
def instrOfLine (name : String) (ops : List Nat) : Option Instr :=
  match name, ops with
  | "NOP", [] => some .nop
  | "GF_ADD", [a, b] => some (.gfAdd (BitVec.ofNat 8 a) (BitVec.ofNat 8 b))
  | "GF_MUL", [a, b] => some (.gfMul (BitVec.ofNat 8 a) (BitVec.ofNat 8 b))
  | "GF_DIV", [a, b] => some (.gfDiv (BitVec.ofNat 8 a) (BitVec.ofNat 8 b))
  | "GF_EXP", [e] => some (.gfExp e)
  | "GF_LOG", [a] => some (.gfLog (BitVec.ofNat 8 a))
  | "RS_GEN", [s] => some (.rsGen s)
  | "RS_ENC", [] => some .rsEnc
  | "RS_REM", [k] => some (.rsRem k)
  | "RS_SYN", [k] => some (.rsSyn k)
  | "PL_CLEAR", [] => some .plClear
  | "PL_FINDER", [] => some .plFinder
  | "PL_START", [] => some .plStart
  | "PL_STEP", [] => some .plStep
  | "PL_RUN", [] => some .plRun
  | "PL_FIXUP", [] => some .plFixup
  | "SYMBOL", [] => some .symbol
  | "GF_INV", [a] => some (.gfDiv 0x01 (BitVec.ofNat 8 a))
  | "GF_SQR", [a] => some (.gfMul (BitVec.ofNat 8 a) (BitVec.ofNat 8 a))
  | "RS_CHECK", [k] => some (.rsSyn k)
  | _, _ => none

/-- Assemble one line: an unknown mnemonic, a wrong operand count or an operand outside 0..255 is an error (R95). -/
def assemble (name : String) (ops : List Nat) : Option Word :=
  if ops.all (· < 256) then (instrOfLine name ops).map encode else none

end Sys2Proof
end

