-- ==== Sys2Proof/Config.lean ====
section
/-! DEFINITION. The fixed parameters of R7, the free values the spec leaves unconstrained (R49, R81: draws) and the two
open parameters of the platform (R216 IRQ_LINE, R221 BASE_ADDR). -/

namespace Sys2Proof.Config

/-- MAX_S: the largest correction length RS_GEN accepts (R7). -/
def maxS : Nat := 68

/-- CW_SIZE: bytes in the codeword buffer (R7). -/
def cwSize : Nat := 2178

/-- GRID_DIM: side of the module grid memory (R7). -/
def gridDim : Nat := 144

/-- MAP_DIM: side of the placement mask (R7). -/
def mapDim : Nat := 132

/-- The constant of the ID register, ASCII "DMTX" (R22). -/
def ident : Word := 0x444D5458

/-- The free value of the n-th draw: an unconstrained 32-bit word (R49, R81). No body: nothing can be proved of it. -/
opaque draw : Nat → Word

/-- BASE_ADDR: the platform address of the block's address 0 (R221, D46). Open, so no body. -/
opaque baseAddr : Nat

/-- IRQ_LINE: the line of the platform's interrupt controller (R216, D47). Open, so no body. -/
opaque irqLine : Nat

end Sys2Proof.Config
end

