-- ==== Sys2Proof/Machine/State.lean ====
section
/-! DEFINITION. The architectural state of DMTX-RSPE (R20 to R42), the host's script and the turn list that decide what
happens next, the reasons a step can stop, and the state after pin reset (R240, R241). -/

namespace Sys2Proof.Machine

/-- A memory: (key, byte) pairs with strictly rising keys. An unlisted key holds no value (R49), so no listed entry
equals what an unlisted key reads as. -/
abbrev Memory := List Host.Cell

/-- The placement mask: one bit per mapping-matrix cell, cell (r, c) at bit 132*r + c (R39). -/
abbrev MaskBits := BitVec (132 * 132)

/-- The error codes of STATUS.ERRCODE (R211). Codes 11 to 15 are never recorded. -/
inductive ErrCode where
  | none | illegalOp | divZero | logZero | badS | badSize | genMismatch | badBlock
  | walkInactive | walkOver | walkNotDone
  deriving DecidableEq, Repr

/-- WSTATE (R39). -/
inductive WState where
  | idle | active | done
  deriving DecidableEq, Repr

/-- PHASE (R40). -/
inductive Phase where
  | corner | up | down | finish
  deriving DecidableEq, Repr

/-- The tag of a placed layout: nominal or one of the corner layouts A to D (R163). -/
inductive Layout where
  | nominal | cornerA | cornerB | cornerC | cornerD
  deriving DecidableEq, Repr

/-- The walk: WSTATE, the walk registers and MASK (R39, R40). -/
structure Walk where
  wstate : WState
  phase : Phase
  row : Int
  col : Int
  /-- CHR, the index of the next codeword to place. -/
  chr : Nat
  /-- LAST_LAYOUT; `none` is code 0 (R30). -/
  lastLayout : Option Layout
  lastRow : Int
  lastCol : Int
  /-- MASK; `none` while it holds no value, as after pin reset (R39, R49). -/
  mask : Option MaskBits
  deriving DecidableEq, Repr

/-- The width of a host access; only 32-bit accesses are accepted (R71). -/
inductive Width where
  | byte | half | word
  deriving DecidableEq, Repr

/-- A host bus transaction (R70). -/
inductive Transaction where
  | read (addr : Addr) (width : Width)
  | write (addr : Addr) (width : Width) (value : Word)
  deriving DecidableEq, Repr

/-- A line of the host's script (R96): one transaction, or the end of a loop, which reads `addr` and goes `back` lines
back while bit `bit` of the value read is not `value`. -/
inductive HostLine where
  | access (t : Transaction)
  | loopBack (back : Nat) (bit : Nat) (value : Bool) (addr : Addr)
  deriving DecidableEq, Repr

/-- Who moves next (R210): the HOST with its next line, the ENGINE, or the reset input (R240). -/
inductive Turn where
  | host | engine | pinReset
  deriving DecidableEq, Repr

/-- What the block answers on the bus: the data of a read and the error response (R70, R71). -/
inductive BusResponse where
  | readDone (data : Word) (error : Bool)
  | writeDone (error : Bool)
  deriving DecidableEq, Repr

/-- The model faults (R220). -/
inductive Fault where
  /-- A command reads a CW byte that holds no value. Raised by RS_ENC, RS_REM, RS_SYN, PL_STEP, PL_RUN and SYMBOL.
  Safe: the chip computes with some value, and the model admits no claim about it (R49). -/
  | uninitRead
  /-- A walk violates R167. Raised by PL_STEP, PL_RUN, PL_FIXUP and SYMBOL. Safe: the spec shows that no state from
  reset reaches it (R220). -/
  | unreachable
  deriving DecidableEq, Repr

/-- A command without a meaning. -/
inductive Refusal where
  /-- Raised by a dispatch arm that has no meaning yet. Safe: nothing is claimed of the command. -/
  | notModelled (mnemonic : String)
  deriving DecidableEq, Repr

/-- The state. The first part is the block's (R20); the part after `pending` is the model's own. -/
structure State where
  /-- STATUS.DONE (R23) -/
  done : Bool
  /-- STATUS.ERR, sticky (R23, R213) -/
  err : Bool
  /-- STATUS.OVR (R23) -/
  ovr : Bool
  /-- STATUS.BUSERR (R23) -/
  busErr : Bool
  /-- STATUS.ERRCODE (R23, R211) -/
  errCode : ErrCode
  /-- ZERO (R41) -/
  zero : Bool
  /-- FIXED (R41) -/
  fixed : Bool
  /-- CTRL.IE (R26) -/
  ie : Bool
  /-- CMD (R25) -/
  cmd : Word
  /-- RESULT bits 7:0 (R27) -/
  result : Byte
  /-- SIZE.CLASS (R28) -/
  sizeSel : BitVec 5
  /-- GEN_S (R29) -/
  genS : BitVec 7
  /-- GEN[0..68] (R34) -/
  gen : Vector Byte 69
  /-- REM[0..67] (R35) -/
  rem : Vector Byte 68
  /-- SYN[0..67] (R36) -/
  syn : Vector Byte 68
  /-- CW[0..2177], keyed by index (R37) -/
  cw : Memory
  /-- GRID[x, y], keyed by 256*y + x, each byte 0 or 1 (R38, R73) -/
  grid : Memory
  /-- WSTATE, the walk registers and MASK (R39, R40) -/
  walk : Walk
  /-- PENDING; BUSY is that it is not empty (R42) -/
  pending : Option Word
  /-- The answer to the last host transaction; none before the first. -/
  response : Option BusResponse
  /-- How many free values have been drawn. -/
  draws : Nat
  /-- The host's script (R96). -/
  program : List HostLine
  /-- The index of the host's next line. -/
  hostNext : Nat
  /-- Who moves next, first to last; when it is empty see `nextTurn`. -/
  turns : List Turn
  deriving DecidableEq, Repr

/-- The walk registers after reset (R40, R241); MASK holds no value (R49). -/
def Walk.reset : Walk where
  wstate := .idle
  phase := .corner
  row := 0
  col := 0
  chr := 0
  lastLayout := none
  lastRow := 0
  lastCol := 0
  mask := none

/-- The state after pin reset (R240, R241). -/
def State.reset : State where
  done := false
  err := false
  ovr := false
  busErr := false
  errCode := .none
  zero := false
  fixed := false
  ie := false
  cmd := 0
  result := 0
  sizeSel := 0
  genS := 0
  gen := Vector.replicate 69 0
  rem := Vector.replicate 68 0
  syn := Vector.replicate 68 0
  cw := []
  grid := []
  walk := Walk.reset
  pending := none
  response := none
  draws := 0
  program := []
  hostNext := 0
  turns := []

end Sys2Proof.Machine
end

