-- ==== Sys2Proof/Machine/SizeRom.lean ====
section
/-! DEFINITION. SIZE_ROM, the 30 size classes (R46, R47), and the walk length of each class (R173). -/

namespace Sys2Proof.Machine

/-- Square or rectangular (R47). -/
inductive ClassKind where
  | square | rect
  deriving DecidableEq, Repr

/-- One row of SIZE_ROM, with the column names of R47 (in lower case where R47 has a capital). -/
structure SizeClass where
  kind : ClassKind
  /-- H, symbol height in modules -/
  h : Nat
  /-- W, symbol width in modules -/
  w : Nat
  /-- RY, data regions vertically -/
  ry : Nat
  /-- RX, data regions horizontally -/
  rx : Nat
  /-- region interior height -/
  rh : Nat
  /-- region interior width -/
  rw : Nat
  /-- rows of the mapping matrix -/
  nrow : Nat
  /-- columns of the mapping matrix -/
  ncol : Nat
  /-- D, data codewords -/
  d : Nat
  /-- E, correction codewords in total -/
  e : Nat
  /-- interleaved blocks -/
  b : Nat
  /-- correction codewords per block -/
  s : Nat
  /-- N = D + E, codewords in total -/
  n : Nat
  deriving DecidableEq, Repr

/-- SIZE_ROM, indices 0..29 (R47). -/
def sizeRom : List SizeClass := [
  ⟨.square, 10, 10, 1, 1, 8, 8, 8, 8, 3, 5, 1, 5, 8⟩,
  ⟨.square, 12, 12, 1, 1, 10, 10, 10, 10, 5, 7, 1, 7, 12⟩,
  ⟨.square, 14, 14, 1, 1, 12, 12, 12, 12, 8, 10, 1, 10, 18⟩,
  ⟨.square, 16, 16, 1, 1, 14, 14, 14, 14, 12, 12, 1, 12, 24⟩,
  ⟨.square, 18, 18, 1, 1, 16, 16, 16, 16, 18, 14, 1, 14, 32⟩,
  ⟨.square, 20, 20, 1, 1, 18, 18, 18, 18, 22, 18, 1, 18, 40⟩,
  ⟨.square, 22, 22, 1, 1, 20, 20, 20, 20, 30, 20, 1, 20, 50⟩,
  ⟨.square, 24, 24, 1, 1, 22, 22, 22, 22, 36, 24, 1, 24, 60⟩,
  ⟨.square, 26, 26, 1, 1, 24, 24, 24, 24, 44, 28, 1, 28, 72⟩,
  ⟨.square, 32, 32, 2, 2, 14, 14, 28, 28, 62, 36, 1, 36, 98⟩,
  ⟨.square, 36, 36, 2, 2, 16, 16, 32, 32, 86, 42, 1, 42, 128⟩,
  ⟨.square, 40, 40, 2, 2, 18, 18, 36, 36, 114, 48, 1, 48, 162⟩,
  ⟨.square, 44, 44, 2, 2, 20, 20, 40, 40, 144, 56, 1, 56, 200⟩,
  ⟨.square, 48, 48, 2, 2, 22, 22, 44, 44, 174, 68, 1, 68, 242⟩,
  ⟨.square, 52, 52, 2, 2, 24, 24, 48, 48, 204, 84, 2, 42, 288⟩,
  ⟨.square, 64, 64, 4, 4, 14, 14, 56, 56, 280, 112, 2, 56, 392⟩,
  ⟨.square, 72, 72, 4, 4, 16, 16, 64, 64, 368, 144, 4, 36, 512⟩,
  ⟨.square, 80, 80, 4, 4, 18, 18, 72, 72, 456, 192, 4, 48, 648⟩,
  ⟨.square, 88, 88, 4, 4, 20, 20, 80, 80, 576, 224, 4, 56, 800⟩,
  ⟨.square, 96, 96, 4, 4, 22, 22, 88, 88, 696, 272, 4, 68, 968⟩,
  ⟨.square, 104, 104, 4, 4, 24, 24, 96, 96, 816, 336, 6, 56, 1152⟩,
  ⟨.square, 120, 120, 6, 6, 18, 18, 108, 108, 1050, 408, 6, 68, 1458⟩,
  ⟨.square, 132, 132, 6, 6, 20, 20, 120, 120, 1304, 496, 8, 62, 1800⟩,
  ⟨.square, 144, 144, 6, 6, 22, 22, 132, 132, 1558, 620, 10, 62, 2178⟩,
  ⟨.rect, 8, 18, 1, 1, 6, 16, 6, 16, 5, 7, 1, 7, 12⟩,
  ⟨.rect, 8, 32, 1, 2, 6, 14, 6, 28, 10, 11, 1, 11, 21⟩,
  ⟨.rect, 12, 26, 1, 1, 10, 24, 10, 24, 16, 14, 1, 14, 30⟩,
  ⟨.rect, 12, 36, 1, 2, 10, 16, 10, 32, 22, 18, 1, 18, 40⟩,
  ⟨.rect, 16, 36, 1, 2, 14, 16, 14, 32, 32, 24, 1, 24, 56⟩,
  ⟨.rect, 16, 48, 1, 2, 14, 22, 14, 44, 49, 28, 1, 28, 77⟩]

/-- The number of micro-steps from PL_START to END, per class (R173). The walk loops use it as their bound (R167). -/
def walkSteps : List Nat := [
  16, 23, 29, 40, 48, 59, 69, 84, 96, 125, 160, 197, 240, 285, 336,
  448, 576, 720, 880, 1056, 1248, 1565, 1920, 2309, 24, 42, 50, 65, 81, 111]

/-- The SIZE_ROM row of a class index; none above 29 (R28, R31). -/
def classRow (sel : BitVec 5) : Option SizeClass := sizeRom[sel.toNat]?

/-- The row that SIZE selects (R28). -/
def State.sizeClass? (s : State) : Option SizeClass := classRow s.sizeSel

/-- The bound of the selected class's walk (R167, R173). -/
def State.walkBound (s : State) : Nat := walkSteps.getD s.sizeSel.toNat 0

end Sys2Proof.Machine
end

