-- ==== Sys2Proof/Machine/Ops.lean ====
section
/-! DEFINITION. The shared operations: memories (R12, R49), completing a command and failing with an error code
(R210, R213), the acknowledge that takes the place of a trap return (R217), and sequencing. -/

namespace Sys2Proof.Machine

/-- What a step answers. -/
abbrev Result := Host.Outcome State Fault Refusal

/-! ### Memories -/

/-- The byte at a key; an unlisted key holds no value (R49). -/
def Memory.read : Memory → Nat → Option Byte
  | [], _ => none
  | (a, u) :: rest, k => if a = k then some u else Memory.read rest k

/-- Write a byte at a key, keeping the keys in rising order. -/
def Memory.write : Memory → Nat → Byte → Memory
  | [], k, v => [(k, v)]
  | (a, u) :: rest, k, v =>
    if k < a then (k, v) :: (a, u) :: rest
    else if k = a then (k, v) :: rest
    else (a, u) :: Memory.write rest k v

/-- Write a list of cells in order: a later one wins (R12). -/
def Memory.writeAll (m : Memory) (cells : List Host.Cell) : Memory :=
  cells.foldl (fun acc cell => Memory.write acc cell.1 cell.2) m

/-- Make every key that satisfies `gone` hold no value (R242). -/
def Memory.forget (m : Memory) (gone : Nat → Bool) : Memory :=
  m.filter (fun cell => !gone cell.1)

/-- The bytes at a list of keys, in order; none when one of them holds no value (R49, R220). -/
def Memory.readAll (m : Memory) : List Nat → Option (List Byte)
  | [] => some []
  | k :: ks =>
    match Memory.read m k, Memory.readAll m ks with
    | some v, some vs => some (v :: vs)
    | _, _ => none

/-- Every key of the memory is above `k`. -/
def Memory.above (m : Memory) (k : Nat) : Bool := m.all (fun cell => decide (k < cell.1))

/-- The canonical form: keys strictly rising. An unlisted key holds no value, which no listed byte equals. -/
def Memory.wf : Memory → Bool
  | [] => true
  | (a, _) :: rest => Memory.above rest a && Memory.wf rest

/-- The key of GRID[x, y]: the word index of its place in the GRID window (R73). -/
def gridKey (x y : Nat) : Nat := 256 * y + x

/-- The byte that holds one module or one bit. -/
def bitByte (b : Bool) : Byte := if b then 1 else 0

/-- CW[i] (R12); none while it holds no value. -/
def State.cwAt (s : State) (i : Nat) : Option Byte := Memory.read s.cw i

/-- GRID[x, y] (R12); none while it holds no value. -/
def State.gridAt (s : State) (x y : Nat) : Option Byte := Memory.read s.grid (gridKey x y)

/-- The list of `f 0, f 1, …` as a register array (R34 to R36). -/
def bytes (n : Nat) (f : Nat → Byte) : Vector Byte n :=
  ⟨((List.range n).map f).toArray, by simp⟩

/-! ### Updates of one group of fields -/

/-- Write RESULT (R27). -/
def State.setResult (s : State) (v : Byte) : State := { s with result := v }

/-- Write GEN and GEN_S (R121). -/
def State.setGen (s : State) (deg : BitVec 7) (g : Vector Byte 69) : State := { s with genS := deg, gen := g }

/-- Write REM and ZERO (R128). -/
def State.setRem (s : State) (r : Vector Byte 68) (z : Bool) : State := { s with rem := r, zero := z }

/-- Write SYN and ZERO (R129). -/
def State.setSyn (s : State) (y : Vector Byte 68) (z : Bool) : State := { s with syn := y, zero := z }

/-- Write the codeword buffer (R37). -/
def State.setCw (s : State) (m : Memory) : State := { s with cw := m }

/-- Write the module grid (R38). -/
def State.setGrid (s : State) (m : Memory) : State := { s with grid := m }

/-- Write the walk: WSTATE, the walk registers and MASK (R39, R40). -/
def State.setWalk (s : State) (w : Walk) : State := { s with walk := w }

/-- Write FIXED (R41). -/
def State.setFixed (s : State) (b : Bool) : State := { s with fixed := b }

/-! ### Completion, errors and their acknowledge -/

/-- A command completes without error: DONE <- 1, ERRCODE <- 0, PENDING empties; ERR stays (R210, R213). -/
def complete (s : State) : State := { s with done := true, errCode := .none, pending := none }

/-- End a command successfully (R12 `done`, R210). -/
def succeed (s : State) : Result := .next (complete s)

/-- TAKING AN EXCEPTION on this block (R210, R213): `raise Error(code)`. DONE <- 1, ERR <- 1, ERRCODE <- code, PENDING
empties, and nothing else changes. There is no trap entry (R217): no address or mode is saved. -/
def raiseError (code : ErrCode) (s : State) : Result :=
  .next { s with done := true, err := true, errCode := code, pending := none }

/-- THE RETURN FROM AN EXCEPTION on this block (R217): the host's write of `v` to STATUS. It clears each W1C bit
(DONE 1, ERR 2, OVR 3, BUSERR 4) whose bit in `v` is 1 and leaves every other bit unchanged (R24). -/
def acknowledge (v : Word) (s : State) : State :=
  { s with
    done := s.done && !v.getLsbD 1
    err := s.err && !v.getLsbD 2
    ovr := s.ovr && !v.getLsbD 3
    busErr := s.busErr && !v.getLsbD 4 }

/-! ### Sequencing -/

/-- Go on with the next state, or stop where the first part stopped. -/
def andThen (r : Result) (f : State → Result) : Result :=
  match r with
  | .next s => f s
  | .fault x => .fault x
  | .refused x => .refused x

/-- The size class check that most commands begin with: BAD_SIZE when SIZE.CLASS is 30 or 31 (R28, R211). -/
def withClass (s : State) (f : SizeClass → Result) : Result :=
  match s.sizeClass? with
  | none => raiseError .badSize s
  | some c => f c

end Sys2Proof.Machine
end

