-- ==== Sys2Proof/Machine/Operands.lean ====
section
/-! DEFINITION. The operands that the state implies (R91): the blocks of the codeword buffer (R48, R122, R125, R127)
and the coefficients of the loaded generator (R34). The immediate operands are decoded in Decode.lean. -/

namespace Sys2Proof.Machine

/-- D_k, the number of data codewords of block k (R48). -/
def blockLen (c : SizeClass) (k : Nat) : Nat := (c.d - k + c.b - 1) / c.b

/-- The CW indices of the data codewords of block k: k, k+b, k+2b, …, all below D (R48, R122). -/
def dataIndices (c : SizeClass) (k : Nat) : List Nat :=
  (List.range (blockLen c k)).map (fun i => k + i * c.b)

/-- The CW indices of the correction codewords of block k: D + k + i*b for i < s (R48, R125). -/
def eccIndices (c : SizeClass) (k : Nat) : List Nat :=
  (List.range c.s).map (fun i => c.d + k + i * c.b)

/-- The CW indices of the block codeword c_k: data, then correction (R127). -/
def blockIndices (c : SizeClass) (k : Nat) : List Nat := dataIndices c k ++ eccIndices c k

/-- The coefficients GEN[0..s-1] that a division by the monic generator of degree s reads (R124, R128). -/
def State.genCoeffs (s : State) (deg : Nat) : List Byte :=
  (List.range deg).map (fun j => s.gen.toList.getD j 0)

end Sys2Proof.Machine
end

