-- ==== Sys2Proof/Machine/Flags.lean ====
section
/-! DEFINITION. STATUS and its flags (R23), the views of the other packed registers (R30, R31) and the IRQ output
(R50, R216). -/

namespace Sys2Proof.Machine

/-- BUSY: PENDING is not empty (R42). -/
def State.busy (s : State) : Bool := s.pending.isSome

/-- GEN_VALID: GEN_S is not 0 (R23). -/
def State.genValid (s : State) : Bool := s.genS != 0

/-- WALK_ACTIVE (R23). -/
def State.walkActive (s : State) : Bool := s.walk.wstate == .active

/-- WALK_DONE (R23). -/
def State.walkDone (s : State) : Bool := s.walk.wstate == .done

/-- The 4-bit code of an error (R211). -/
def ErrCode.toBits : ErrCode → BitVec 4
  | .none => 0
  | .illegalOp => 1
  | .divZero => 2
  | .logZero => 3
  | .badS => 4
  | .badSize => 5
  | .genMismatch => 6
  | .badBlock => 7
  | .walkInactive => 8
  | .walkOver => 9
  | .walkNotDone => 10

/-- One flag as a bit. -/
def flag (b : Bool) : BitVec 1 := BitVec.ofBool b

/-- The word read at STATUS, highest bit first (R23). -/
def State.statusWord (s : State) : Word :=
  0#16 ++ s.errCode.toBits ++ 0#2 ++ flag s.fixed ++ flag s.walkDone ++ flag s.walkActive ++ flag s.genValid
    ++ flag s.zero ++ flag s.busErr ++ flag s.ovr ++ flag s.err ++ flag s.done ++ flag s.busy

/-- The word read at CTRL: IE in bit 0; SRST reads 0 (R26). -/
def State.ctrlWord (s : State) : Word := 0#31 ++ flag s.ie

/-- The IRQ output, a level: CTRL.IE AND STATUS.DONE (R50, R216). -/
def State.irq (s : State) : Bool := s.ie && s.done

/-- PHASE codes (R30). -/
def Phase.code : Phase → BitVec 2
  | .corner => 0
  | .up => 1
  | .down => 2
  | .finish => 3

/-- LAST_LAYOUT codes (R30, R163). -/
def layoutCode : Option Layout → BitVec 3
  | none => 0
  | some .nominal => 1
  | some .cornerA => 2
  | some .cornerB => 3
  | some .cornerC => 4
  | some .cornerD => 5

/-- PL_CUR = (COL[15:0], ROW[15:0]), two's complement (R30, R32). -/
def State.plCur (s : State) : Word := BitVec.ofInt 16 s.walk.col ++ BitVec.ofInt 16 s.walk.row

/-- PL_INFO: PHASE in 17:16, LAST_LAYOUT in 14:12, CHR in 11:0 (R30). -/
def State.plInfo (s : State) : Word :=
  0#14 ++ s.walk.phase.code ++ 0#1 ++ layoutCode s.walk.lastLayout ++ BitVec.ofNat 12 s.walk.chr

/-- PL_LAST = (LAST_COL[15:0], LAST_ROW[15:0]) (R30). -/
def State.plLast (s : State) : Word := BitVec.ofInt 16 s.walk.lastCol ++ BitVec.ofInt 16 s.walk.lastRow

/-- GEOM0 to GEOM3 of a size class (R31). -/
def geomOf (c : SizeClass) (k : Nat) : Word :=
  match k with
  | 0 => BitVec.ofNat 8 c.rh ++ BitVec.ofNat 8 c.rw ++ BitVec.ofNat 8 c.h ++ BitVec.ofNat 8 c.w
  | 1 => 0#4 ++ BitVec.ofNat 4 c.b ++ BitVec.ofNat 4 c.ry ++ BitVec.ofNat 4 c.rx ++ BitVec.ofNat 8 c.nrow
      ++ BitVec.ofNat 8 c.ncol
  | 2 => 0#4 ++ BitVec.ofNat 12 c.e ++ 0#4 ++ BitVec.ofNat 12 c.d
  | _ => 0#9 ++ BitVec.ofNat 7 c.s ++ 0#4 ++ BitVec.ofNat 12 c.n

/-- The word read at GEOM0 to GEOM3; 0 when CLASS is above 29 (R31). -/
def State.geom (s : State) (k : Nat) : Word :=
  match s.sizeClass? with
  | none => 0
  | some c => geomOf c k

end Sys2Proof.Machine
end

