-- ==== Sys2Proof/Machine/Walk.lean ====
section
/-! DEFINITION. The geometry of the placement walk and its control: layouts, wrap, corner selection, micro-steps
(R150, R154 to R166). This part reads no codeword; Placement.lean adds the codewords and the grid. -/

namespace Sys2Proof.Machine

/-- A cell of the mapping matrix before it is known to lie inside (R150): row, column. -/
abbrev MapCell := Int × Int

/-- The cell lies inside the mapping matrix (R150). -/
def inMatrix (c : SizeClass) (r k : Int) : Bool :=
  decide (0 ≤ r) && decide (r < c.nrow) && decide (0 ≤ k) && decide (k < c.ncol)

/-- The bit of MASK that stands for cell (r, k) (R39). -/
def maskIndex (r k : Int) : Nat := Config.mapDim * r.toNat + k.toNat

/-- MASK[r, k] = 1: the walk has assigned the cell (R39). -/
def maskBit (m : MaskBits) (r k : Int) : Bool := m.getLsbD (maskIndex r k)

/-- MASK[r, k] <- 1 (R163). -/
def setMask (m : MaskBits) (r k : Int) : MaskBits := m ||| BitVec.ofNat _ (1 <<< maskIndex r k)

/-! ### Layouts -/

/-- The module wrap (R157), both steps in order. -/
def wrapCell (c : SizeClass) (r k : Int) : MapCell :=
  let p : MapCell := if r < 0 then (r + c.nrow, k + 4 - ((c.nrow + 4) % 8 : Nat)) else (r, k)
  if p.2 < 0 then (p.1 + 4 - ((c.ncol + 4) % 8 : Nat), p.2 + c.ncol) else p

/-- The nominal offsets, most significant bit first (R156). -/
def nominalOffsets : List MapCell :=
  [(-2, -2), (-2, -1), (-1, -2), (-1, -1), (-1, 0), (0, -2), (0, -1), (0, 0)]

/-- The 8 cells of a layout, L[1] first: nominal at the cursor (R156), corner layouts at fixed cells (R158 to R161). -/
def layoutCells (c : SizeClass) (t : Layout) (row col : Int) : List MapCell :=
  let n : Int := c.nrow
  let m : Int := c.ncol
  match t with
  | .nominal => nominalOffsets.map (fun o => wrapCell c (row + o.1) (col + o.2))
  | .cornerA => [(n - 1, 0), (n - 1, 1), (n - 1, 2), (0, m - 2), (0, m - 1), (1, m - 1), (2, m - 1), (3, m - 1)]
  | .cornerB => [(n - 3, 0), (n - 2, 0), (n - 1, 0), (0, m - 4), (0, m - 3), (0, m - 2), (0, m - 1), (1, m - 1)]
  | .cornerC => [(n - 3, 0), (n - 2, 0), (n - 1, 0), (0, m - 2), (0, m - 1), (1, m - 1), (2, m - 1), (3, m - 1)]
  | .cornerD => [(n - 1, 0), (n - 1, m - 1), (0, m - 3), (0, m - 2), (0, m - 1), (1, m - 3), (1, m - 2), (1, m - 1)]

/-- Corner selection, in the order A, B, C, D (R162). -/
def cornerLayout (c : SizeClass) (row col : Int) : Option Layout :=
  if row = c.nrow ∧ col = 0 then some .cornerA
  else if row = c.nrow - 2 ∧ col = 0 ∧ c.ncol % 4 ≠ 0 then some .cornerB
  else if row = c.nrow - 2 ∧ col = 0 ∧ c.ncol % 8 = 4 then some .cornerC
  else if row = c.nrow + 4 ∧ col = 2 ∧ c.ncol % 8 = 0 then some .cornerD
  else none

/-! ### Control of one micro-step -/

/-- Whether MASK shows the cell as assigned; a mask that holds no value shows nothing as assigned. -/
def Walk.assigned (w : Walk) (r k : Int) : Bool :=
  match w.mask with
  | none => false
  | some m => maskBit m r k

/-- The layout a micro-step places, if any (R164 to R166). PHASE = END has no micro-step. -/
def Walk.select (c : SizeClass) (w : Walk) : Option Layout :=
  match w.phase with
  | .corner => cornerLayout c w.row w.col
  | .up | .down =>
    if inMatrix c w.row w.col && !w.assigned w.row w.col then some .nominal else none
  | .finish => none

/-- Assign the cells of a layout in order. None when a cell lies outside the matrix or is assigned already, which R163
and R167 (g) exclude. -/
def assignCells (c : SizeClass) : MaskBits → List MapCell → Option MaskBits
  | m, [] => some m
  | m, (r, k) :: rest =>
    if inMatrix c r k && !maskBit m r k then assignCells c (setMask m r k) rest else none

/-- The part of `place` that reads no codeword (R163): MASK, LAST_LAYOUT, LAST_ROW, LAST_COL, CHR. None where R167 is
violated: CHR >= N, a cell outside the matrix or assigned twice, or a mask that was never cleared. -/
def Walk.place (c : SizeClass) (t : Layout) (w : Walk) : Option Walk :=
  if c.n ≤ w.chr then none
  else match w.mask with
    | none => none
    | some m =>
      match assignCells c m (layoutCells c t w.row w.col) with
      | none => none
      | some m' =>
        some { w with mask := some m', lastLayout := some t, lastRow := w.row, lastCol := w.col, chr := w.chr + 1 }

/-- The cursor move and the phase change that end a micro-step (R164 to R166). -/
def Walk.advance (c : SizeClass) (w : Walk) : Walk :=
  match w.phase with
  | .corner => { w with phase := .up }
  | .up =>
    let r := w.row - 2
    let k := w.col + 2
    if 0 ≤ r ∧ k < c.ncol then { w with row := r, col := k }
    else { w with row := r + 1, col := k + 3, phase := .down }
  | .down =>
    let r := w.row + 2
    let k := w.col - 2
    if r < c.nrow ∧ 0 ≤ k then { w with row := r, col := k }
    else
      { w with
        row := r + 3
        col := k + 1
        phase := if r + 3 < c.nrow ∨ k + 1 < c.ncol then .corner else .finish }
  | .finish => w

/-- The control part of one micro-step: select, place, advance. None where R167 is violated, and in PHASE = END. -/
def Walk.microStep (c : SizeClass) (w : Walk) : Option Walk :=
  if w.phase = .finish then none
  else match w.select c with
    | none => some (w.advance c)
    | some t => (w.place c t).map (Walk.advance c)

/-- The walk right after PL_START (R168). -/
def Walk.start : Walk where
  wstate := .active
  phase := .corner
  row := 4
  col := 0
  chr := 0
  lastLayout := none
  lastRow := 0
  lastCol := 0
  mask := some 0

/-- The control state after `k` micro-steps from PL_START. -/
def walkAfter (c : SizeClass) : Nat → Option Walk
  | 0 => some Walk.start
  | k + 1 =>
    match walkAfter c k with
    | none => none
    | some w => w.microStep c

/-! ### From the mapping matrix to the grid -/

/-- The gap translation (R154): the column x of mapping-matrix column k. -/
def moduleX (c : SizeClass) (k : Nat) : Nat := k + 2 * (k / c.rw) + 1

/-- The gap translation (R154): the row y of mapping-matrix row r. -/
def moduleY (c : SizeClass) (r : Nat) : Nat := r + 2 * (r / c.rh) + 1

/-- The key of the module that a mapping-matrix cell stands for (R154). -/
def cellKey (c : SizeClass) (cell : MapCell) : Nat :=
  gridKey (moduleX c cell.2.toNat) (moduleY c cell.1.toNat)

/-- The writes that place codeword v on the cells L[1..8]: bit 8 - j to L[j] (R155, R163). -/
def placeWrites (c : SizeClass) (cells : List MapCell) (v : Byte) : List Host.Cell :=
  List.zipWith (fun cell j => (cellKey c cell, bitByte (v.getLsbD (7 - j)))) cells (List.range 8)

/-- The four cells of the unfilled corner with their values (R171). -/
def fixupCells (c : SizeClass) : List (MapCell × Bool) :=
  let n : Int := c.nrow
  let m : Int := c.ncol
  [((n - 1, m - 1), true), ((n - 2, m - 2), true), ((n - 1, m - 2), false), ((n - 2, m - 1), false)]

/-- The grid writes of the fixup (R171). -/
def fixupWrites (c : SizeClass) : List Host.Cell :=
  (fixupCells c).map (fun p => (cellKey c p.1, bitByte p.2))

/-- The MASK bits the fixup sets (R171). -/
def fixupMask (c : SizeClass) (m : MaskBits) : MaskBits :=
  (fixupCells c).foldl (fun acc p => setMask acc p.1.1 p.1.2) m

/-! ### The finder -/

/-- The finder function (R151): the value of a finder cell of the symbol, none for a data cell. -/
def finder? (c : SizeClass) (x y : Nat) : Option Bool :=
  let lx := x % (c.rw + 2)
  let ly := y % (c.rh + 2)
  if lx = 0 then some true
  else if ly = c.rh + 1 then some true
  else if ly = 0 then some (x % 2 == 0)
  else if lx = c.rw + 1 then some (y % 2 == 1)
  else none

/-- The finder cells of the symbol with their values (R153). -/
def finderWrites (c : SizeClass) : List Host.Cell :=
  (List.range c.h).flatMap fun y =>
    (List.range c.w).filterMap fun x => (finder? c x y).map (fun b => (gridKey x y, bitByte b))

/-- GRID with every cell 0 (R152). -/
def clearedGrid : Memory :=
  (List.range Config.gridDim).flatMap fun y => (List.range Config.gridDim).map fun x => (gridKey x y, 0)

end Sys2Proof.Machine
end

