-- ==== Sys2Proof/Machine/Bus.lean ====
section
/-! DEFINITION. The host interface: the address map (R73), reads and writes (R71 to R75, R81, R82), issue (R25), soft
reset (R240, R242), the pin reset (R240), the host's script (R96) and the platform's open parameters (R216, R221). -/

namespace Sys2Proof.Machine

/-! ### The address map -/

/-- A mapped location (R73). -/
inductive Location where
  | id | status | ctrl | cmd | result | size
  | geom (k : Nat)
  | genS | plCur | plInfo | plLast
  | gen (k : Nat)
  | rem (i : Nat)
  | syn (i : Nat)
  | cw (i : Nat)
  | grid (x y : Nat)
  deriving DecidableEq, Repr

/-- The registers 0x00000 to 0x00034, in address order (R73). -/
def registerMap : List Location :=
  [.id, .status, .ctrl, .cmd, .result, .size, .geom 0, .geom 1, .geom 2, .geom 3, .genS, .plCur, .plInfo, .plLast]

/-- The location at an aligned address; none where the map lists nothing (R72, R73). -/
def locate (addr : Nat) : Option Location :=
  if addr % 4 ≠ 0 then none
  else
    let k := addr / 4
    if k < 14 then registerMap[k]?
    else if 0x100 ≤ k ∧ k < 0x100 + 69 then some (.gen (k - 0x100))
    else if 0x180 ≤ k ∧ k < 0x180 + 68 then some (.rem (k - 0x180))
    else if 0x200 ≤ k ∧ k < 0x200 + 68 then some (.syn (k - 0x200))
    else if 0x1000 ≤ k ∧ k < 0x1000 + Config.cwSize then some (.cw (k - 0x1000))
    else if 0x8000 ≤ k ∧ (k - 0x8000) % 256 < Config.gridDim ∧ (k - 0x8000) / 256 < Config.gridDim then
      some (.grid ((k - 0x8000) % 256) ((k - 0x8000) / 256))
    else none

/-- The location an access reaches; none for an access that is refused: not 32 bits wide, misaligned or unmapped
(R71, R72). -/
def accept (addr : Addr) (width : Width) : Option Location :=
  match width with
  | .word => locate addr.toNat
  | .byte | .half => none

/-! ### Reads -/

/-- The word a location holds; none for a CW or GRID cell that holds no value (R22 to R36, R49, R74, R75). -/
def State.held (s : State) : Location → Option Word
  | .id => some Config.ident
  | .status => some s.statusWord
  | .ctrl => some s.ctrlWord
  | .cmd => some s.cmd
  | .result => some (s.result.setWidth 32)
  | .size => some (s.sizeSel.setWidth 32)
  | .geom k => some (s.geom k)
  | .genS => some (s.genS.setWidth 32)
  | .plCur => some s.plCur
  | .plInfo => some s.plInfo
  | .plLast => some s.plLast
  | .gen k => some ((s.gen.toList.getD k 0).setWidth 32)
  | .rem i => some ((s.rem.toList.getD i 0).setWidth 32)
  | .syn i => some ((s.syn.toList.getD i 0).setWidth 32)
  | .cw i => (s.cwAt i).map (·.setWidth 32)
  | .grid x y => (s.gridAt x y).map (·.setWidth 32)

/-- Whether a read while BUSY is a draw (R81). -/
def Location.drawnWhileBusy : Location → Bool
  | .result | .genS | .gen _ | .rem _ | .syn _ | .cw _ | .grid _ _ | .plCur | .plInfo | .plLast => true
  | .id | .status | .ctrl | .cmd | .size | .geom _ => false

/-- The bits of a drawn word that are not reserved (R81, R27, R29, R30, R74, R75). -/
def Location.drawMask : Location → Word
  | .result | .gen _ | .rem _ | .syn _ | .cw _ => 0x000000FF
  | .genS => 0x0000007F
  | .grid _ _ => 0x00000001
  | .plInfo => 0x00037FFF
  | .plCur | .plLast | .id | .status | .ctrl | .cmd | .size | .geom _ => 0xFFFFFFFF

/-- Answer a read with a fresh free value whose reserved bits are 0 (R49, R81). -/
def drawRead (l : Location) (s : State) : State :=
  { s with response := some (.readDone (Config.draw s.draws &&& l.drawMask) false), draws := s.draws + 1 }

/-- `MemRead(addr, 4)` and its refused forms (R70 to R72, R81). -/
def hostRead (addr : Addr) (width : Width) (s : State) : State :=
  match accept addr width with
  | none => { s with busErr := true, response := some (.readDone 0 true) }
  | some l =>
    if s.busy && l.drawnWhileBusy then drawRead l s
    else match s.held l with
      | none => drawRead l s
      | some v => { s with response := some (.readDone v false) }

/-! ### Reset -/

/-- The state after a reset event, with the memories it leaves and with the host's own part kept (R240, R241). -/
def resetTo (cw grid : Memory) (mask : Option MaskBits) (s : State) : State :=
  { State.reset with
    cw := cw
    grid := grid
    walk := { Walk.reset with mask := mask }
    response := s.response
    draws := s.draws
    program := s.program
    hostNext := s.hostNext
    turns := s.turns }

/-- Whether a command's write set holds CW[i] (R87). -/
def writesCw (c? : Option SizeClass) (i : Instr) (key : Nat) : Bool :=
  match i with
  | .rsEnc | .symbol => c?.any (fun c => decide (c.d ≤ key) && decide (key < c.n))
  | .nop | .gfAdd _ _ | .gfMul _ _ | .gfDiv _ _ | .gfExp _ | .gfLog _ | .rsGen _ | .rsRem _ | .rsSyn _ | .plClear
  | .plFinder | .plStart | .plStep | .plRun | .plFixup => false

/-- The key is a GRID cell of the class's symbol (R38). -/
def inSymbol (c : SizeClass) (key : Nat) : Bool := decide (key % 256 < c.w) && decide (key / 256 < c.h)

/-- The key is a finder cell of the class's symbol (R151). -/
def isFinderKey (c : SizeClass) (key : Nat) : Bool :=
  inSymbol c key && (finder? c (key % 256) (key / 256)).isSome

/-- The key is a data cell of the class's symbol: a mapping-matrix cell (R151, R154). -/
def isDataKey (c : SizeClass) (key : Nat) : Bool :=
  inSymbol c key && (finder? c (key % 256) (key / 256)).isNone

/-- Whether a command's write set holds the GRID cell with this key (R87). SYMBOL's set holds that of its part PL_CLEAR,
the whole GRID, which needs no class; the other sets are given by the class and are empty without one (log 9). -/
def writesGrid (c? : Option SizeClass) (i : Instr) (key : Nat) : Bool :=
  match i with
  | .plClear | .symbol => true
  | .plFinder => c?.any (isFinderKey · key)
  | .plStep | .plRun | .plFixup => c?.any (isDataKey · key)
  | .nop | .gfAdd _ _ | .gfMul _ _ | .gfDiv _ _ | .gfExp _ | .gfLog _ | .rsGen _ | .rsEnc | .rsRem _ | .rsSyn _
  | .plStart => false

/-- Whether a command's write set holds MASK (R87, R168). -/
def writesMask (c? : Option SizeClass) (i : Instr) : Bool :=
  match i with
  | .plStart | .plStep | .plRun | .plFixup | .symbol => c?.isSome
  | .nop | .gfAdd _ _ | .gfMul _ _ | .gfDiv _ _ | .gfExp _ | .gfLog _ | .rsGen _ | .rsEnc | .rsRem _ | .rsSyn _
  | .plClear | .plFinder => false

/-- The command PENDING holds; none when it is empty or its word is illegal. -/
def State.pendingInstr (s : State) : Option Instr :=
  match s.pending with
  | none => none
  | some w => (decode w).toOption

/-- The soft reset, CTRL.SRST (R240, R242): the memories keep their contents, but the write set of a pending command
holds no value afterwards. -/
def softReset (s : State) : State :=
  match s.pendingInstr with
  | none => resetTo s.cw s.grid s.walk.mask s
  | some i =>
    resetTo (Memory.forget s.cw (writesCw s.sizeClass? i)) (Memory.forget s.grid (writesGrid s.sizeClass? i))
      (if writesMask s.sizeClass? i then none else s.walk.mask) s

/-- The reset input (R240): every memory holds no value. No transaction has been answered since. -/
def pinReset (s : State) : State := { resetTo [] [] none s with response := none }

/-! ### Writes -/

/-- A write that is dropped while BUSY: OVR <- 1 and nothing else (R82, R214). -/
def unlessBusy (s : State) (s' : State) : State := if s.busy then { s with ovr := true } else s'

/-- Issue a command word (R25). -/
def issue (w : Word) (s : State) : State := { s with pending := some w, cmd := w }

/-- Write SIZE: the class, and any walk ends (R28). -/
def writeSize (v : Word) (s : State) : State :=
  { s with sizeSel := v.setWidth 5, walk := { s.walk with wstate := .idle, phase := .corner } }

/-- Write CTRL: SRST in bit 1 resets the block; otherwise IE <- bit 0 (R26). -/
def writeCtrl (v : Word) (s : State) : State :=
  if v.getLsbD 1 then softReset s else { s with ie := v.getLsbD 0 }

/-- The effect of an accepted write (R24 to R28, R73 to R75, R82). A read-only location ignores it. -/
def writeAt (l : Location) (v : Word) (s : State) : State :=
  match l with
  | .status => acknowledge v s
  | .ctrl => writeCtrl v s
  | .cmd => unlessBusy s (issue v s)
  | .size => unlessBusy s (writeSize v s)
  | .cw i => unlessBusy s (s.setCw (Memory.write s.cw i (v.setWidth 8)))
  | .grid x y => unlessBusy s (s.setGrid (Memory.write s.grid (gridKey x y) (bitByte (v.getLsbD 0))))
  | .id | .result | .geom _ | .genS | .plCur | .plInfo | .plLast | .gen _ | .rem _ | .syn _ => s

/-- `MemWrite(addr, 4, v)` and its refused forms (R70 to R72). -/
def hostWrite (addr : Addr) (width : Width) (v : Word) (s : State) : State :=
  match accept addr width with
  | none => { s with busErr := true, response := some (.writeDone true) }
  | some l => { writeAt l v s with response := some (.writeDone false) }

/-- One host transaction (R70, R79). -/
def transact (t : Transaction) (s : State) : State :=
  match t with
  | .read addr width => hostRead addr width s
  | .write addr width v => hostWrite addr width v s

/-! ### The host's script -/

/-- The data of the last read; 0 after a write or before the first transaction. -/
def State.readData (s : State) : Word :=
  match s.response with
  | some (.readDone v _) => v
  | some (.writeDone _) | none => 0

/-- The host performs its next line (R96); with no line left it does nothing. -/
def hostTurn (s : State) : State :=
  match s.program[s.hostNext]? with
  | none => s
  | some (.access t) => transact t { s with hostNext := s.hostNext + 1 }
  | some (.loopBack back bit value addr) =>
    let s' := hostRead addr .word s
    if s'.readData.getLsbD bit = value then { s' with hostNext := s.hostNext + 1 }
    else { s' with hostNext := s.hostNext - back }

/-- `wr ADDR, V` (R96). -/
def wr (addr : Addr) (v : Word) : HostLine := .access (.write addr .word v)

/-- `rd ADDR` (R96). -/
def rd (addr : Addr) : HostLine := .access (.read addr .word)

/-- `cmd MNEMONIC ops` (R96). -/
def cmdLine (i : Instr) : HostLine := wr 0x0000C (encode i)

/-- `wait` (R96): read STATUS until BUSY reads 0. -/
def waitLine : HostLine := .loopBack 0 0 false 0x00004

/-- `wcw i, V` (R96). The model's choice (log 24): an address that does not fit the 20 bits of R70 is taken modulo 2^20. -/
def wcw (i : Nat) (v : Word) : HostLine := wr (BitVec.ofNat 20 (0x04000 + 4 * i)) v

/-- `rgrid x, y` (R96). The model's choice (log 24): an address that does not fit the 20 bits of R70 is taken modulo
2^20. -/
def rgrid (x y : Nat) : HostLine := rd (BitVec.ofNat 20 (0x20000 + 4 * (256 * y + x)))

/-- The host's lines for "perform `lines` again until bit `bit` of `addr` reads `value`" (R96). -/
def repeatLines (lines : List HostLine) (bit : Nat) (value : Bool) (addr : Addr) : List HostLine :=
  lines ++ [.loopBack lines.length bit value addr]

/-- The pseudo-command PL_ALL (R97). -/
def plAllLines : List HostLine :=
  [cmdLine .plClear, waitLine, cmdLine .plFinder, waitLine, cmdLine .plRun, waitLine]

/-! ### The platform -/

/-- The block's address of a platform address, an offset from BASE_ADDR (R221, D46); none outside the block. -/
def blockAddress (p : Nat) : Option Addr :=
  if Config.baseAddr ≤ p ∧ p < Config.baseAddr + 2 ^ 20 then some (BitVec.ofNat 20 (p - Config.baseAddr)) else none

/-- Whether the block asserts a line of the platform's interrupt controller (R216, D47). -/
def State.assertsLine (s : State) (line : Nat) : Bool := line == Config.irqLine && s.irq

end Sys2Proof.Machine
end

