-- ==== Sys2Proof/Machine/Field.lean ====
section
/-! DEFINITION. GF(256): the EXP and LOG tables (R43 to R45) and the field operations (R100, R101, R104, R105). -/

namespace Sys2Proof.Machine

/-- POLY, the reduction constant of the field (R7, R43). -/
def poly : Nat := 0x12D

/-- Multiplication by alpha: double, and reduce by POLY when the 9-bit value exceeds 255 (R43). -/
def gfDouble (a : Byte) : Byte :=
  let t := 2 * a.toNat
  BitVec.ofNat 8 (if t > 255 then t ^^^ poly else t)

/-- The EXP table in the rows of R44: row i, column j is EXP[16*i + j]. EXP[255] does not exist. -/
def expRows : List (List Byte) := [
  [1, 2, 4, 8, 16, 32, 64, 128, 45, 90, 180, 69, 138, 57, 114, 228],
  [229, 231, 227, 235, 251, 219, 155, 27, 54, 108, 216, 157, 23, 46, 92, 184],
  [93, 186, 89, 178, 73, 146, 9, 18, 36, 72, 144, 13, 26, 52, 104, 208],
  [141, 55, 110, 220, 149, 7, 14, 28, 56, 112, 224, 237, 247, 195, 171, 123],
  [246, 193, 175, 115, 230, 225, 239, 243, 203, 187, 91, 182, 65, 130, 41, 82],
  [164, 101, 202, 185, 95, 190, 81, 162, 105, 210, 137, 63, 126, 252, 213, 135],
  [35, 70, 140, 53, 106, 212, 133, 39, 78, 156, 21, 42, 84, 168, 125, 250],
  [217, 159, 19, 38, 76, 152, 29, 58, 116, 232, 253, 215, 131, 43, 86, 172],
  [117, 234, 249, 223, 147, 11, 22, 44, 88, 176, 77, 154, 25, 50, 100, 200],
  [189, 87, 174, 113, 226, 233, 255, 211, 139, 59, 118, 236, 245, 199, 163, 107],
  [214, 129, 47, 94, 188, 85, 170, 121, 242, 201, 191, 83, 166, 97, 194, 169],
  [127, 254, 209, 143, 51, 102, 204, 181, 71, 142, 49, 98, 196, 165, 103, 206],
  [177, 79, 158, 17, 34, 68, 136, 61, 122, 244, 197, 167, 99, 198, 161, 111],
  [222, 145, 15, 30, 60, 120, 240, 205, 183, 67, 134, 33, 66, 132, 37, 74],
  [148, 5, 10, 20, 40, 80, 160, 109, 218, 153, 31, 62, 124, 248, 221, 151],
  [3, 6, 12, 24, 48, 96, 192, 173, 119, 238, 241, 207, 179, 75, 150]]

/-- The LOG table in the rows of R45: row i, column j is LOG[16*i + j]. LOG[0] does not exist. -/
def logRows : List (List (Option Nat)) := [
  [none, some 0, some 1, some 240, some 2, some 225, some 241, some 53, some 3, some 38, some 226, some 133, some 242, some 43, some 54, some 210],
  [some 4, some 195, some 39, some 114, some 227, some 106, some 134, some 28, some 243, some 140, some 44, some 23, some 55, some 118, some 211, some 234],
  [some 5, some 219, some 196, some 96, some 40, some 222, some 115, some 103, some 228, some 78, some 107, some 125, some 135, some 8, some 29, some 162],
  [some 244, some 186, some 141, some 180, some 45, some 99, some 24, some 49, some 56, some 13, some 119, some 153, some 212, some 199, some 235, some 91],
  [some 6, some 76, some 220, some 217, some 197, some 11, some 97, some 184, some 41, some 36, some 223, some 253, some 116, some 138, some 104, some 193],
  [some 229, some 86, some 79, some 171, some 108, some 165, some 126, some 145, some 136, some 34, some 9, some 74, some 30, some 32, some 163, some 84],
  [some 245, some 173, some 187, some 204, some 142, some 81, some 181, some 190, some 46, some 88, some 100, some 159, some 25, some 231, some 50, some 207],
  [some 57, some 147, some 14, some 67, some 120, some 128, some 154, some 248, some 213, some 167, some 200, some 63, some 236, some 110, some 92, some 176],
  [some 7, some 161, some 77, some 124, some 221, some 102, some 218, some 95, some 198, some 90, some 12, some 152, some 98, some 48, some 185, some 179],
  [some 42, some 209, some 37, some 132, some 224, some 52, some 254, some 239, some 117, some 233, some 139, some 22, some 105, some 27, some 194, some 113],
  [some 230, some 206, some 87, some 158, some 80, some 189, some 172, some 203, some 109, some 175, some 166, some 62, some 127, some 247, some 146, some 66],
  [some 137, some 192, some 35, some 252, some 10, some 183, some 75, some 216, some 31, some 83, some 33, some 73, some 164, some 144, some 85, some 170],
  [some 246, some 65, some 174, some 61, some 188, some 202, some 205, some 157, some 143, some 169, some 82, some 72, some 182, some 215, some 191, some 251],
  [some 47, some 178, some 89, some 151, some 101, some 94, some 160, some 123, some 26, some 112, some 232, some 21, some 51, some 238, some 208, some 131],
  [some 58, some 69, some 148, some 18, some 15, some 16, some 68, some 17, some 121, some 149, some 129, some 19, some 155, some 59, some 249, some 70],
  [some 214, some 250, some 168, some 71, some 201, some 156, some 64, some 60, some 237, some 130, some 111, some 20, some 93, some 122, some 177, some 150]]

/-- EXP[i] for i in 0..254 (R43, R44). -/
def expRom (i : Nat) : Byte := (expRows.getD (i / 16) []).getD (i % 16) 0

/-- LOG[a] for a in 1..255; LOG[0] does not exist (R45). -/
def logRom (a : Byte) : Option Nat := (logRows.getD (a.toNat / 16) []).getD (a.toNat % 16) none

/-- alpha^i = EXP[i mod 255] (R11). -/
def alphaPow (i : Nat) : Byte := expRom (i % 255)

/-- Field addition: exclusive or (R100). -/
def gfAdd (a b : Byte) : Byte := a ^^^ b

/-- Field multiplication by table (R101, R104). An operand has no logarithm exactly when it is 0, and the product is
then 0. -/
def gfMul (a b : Byte) : Byte :=
  match logRom a, logRom b with
  | some la, some lb => alphaPow (la + lb)
  | _, _ => 0

/-- Field division by table; no value when the divisor is 0 (R105). `%` on integers is the non-negative mod (R10). -/
def gfDiv (a b : Byte) : Option Byte :=
  match logRom b with
  | none => none
  | some lb =>
    match logRom a with
    | none => some 0
    | some la => some (expRom (((la : Int) - (lb : Int)) % 255).toNat)

/-- The product of two polynomials over GF(2), as bit patterns: the exclusive or of a*x^i over the set bits i of b. -/
def clMul (a b : Byte) : Nat :=
  (List.range 8).foldl (fun acc i => if b.getLsbD i then acc ^^^ (a.toNat <<< i) else acc) 0

/-- The remainder of a polynomial of degree at most 14 on division by p(x), highest bit first. -/
def polyMod (n : Nat) : Nat :=
  [14, 13, 12, 11, 10, 9, 8].foldl (fun acc i => if acc.testBit i then acc ^^^ (poly <<< (i - 8)) else acc) n

/-- Field multiplication as R101 defines it: (a(x) * b(x)) mod p(x). The commands use the table form `gfMul`. -/
def gfMulPoly (a b : Byte) : Byte := BitVec.ofNat 8 (polyMod (clMul a b))

end Sys2Proof.Machine
end

