-- ==== Sys2Proof/Machine/Gf.lean ====
section
/-! DEFINITION. The meanings of NOP and the GF(256) commands (R102 to R107). -/

namespace Sys2Proof.Machine

/-- NOP (R102): only DONE and ERRCODE change. -/
def execNop (s : State) : Result := succeed s

/-- GF_ADD a, b (R103). -/
def execGfAdd (a b : Byte) (s : State) : Result := succeed (s.setResult (gfAdd a b))

/-- GF_MUL a, b (R104). -/
def execGfMul (a b : Byte) (s : State) : Result := succeed (s.setResult (gfMul a b))

/-- GF_DIV a, b (R105): DIV_ZERO when b = 0. -/
def execGfDiv (a b : Byte) (s : State) : Result :=
  match gfDiv a b with
  | none => raiseError .divZero s
  | some q => succeed (s.setResult q)

/-- GF_EXP e (R106): EXP[e mod 255]. -/
def execGfExp (e : Nat) (s : State) : Result := succeed (s.setResult (alphaPow e))

/-- GF_LOG a (R107): LOG_ZERO when a = 0. -/
def execGfLog (a : Byte) (s : State) : Result :=
  match logRom a with
  | none => raiseError .logZero s
  | some n => succeed (s.setResult (BitVec.ofNat 8 n))

end Sys2Proof.Machine
end

