-- ==== Sys2Proof/Machine/Placement.lean ====
section
/-! DEFINITION. The placement engine: micro-steps with codewords and grid, and the meanings of PL_CLEAR to PL_FIXUP
(R152, R153, R163 to R172). -/

namespace Sys2Proof.Machine

/-! ### Micro-steps -/

/-- `place(L, t)` (R163): UNREACHABLE where R167 is violated, UNINIT_READ where CW[CHR] holds no value. -/
def placeCodeword (c : SizeClass) (t : Layout) (s : State) : Result :=
  match s.walk.place c t with
  | none => .fault .unreachable
  | some w =>
    match s.cwAt s.walk.chr with
    | none => .fault .uninitRead
    | some v =>
      .next ((s.setGrid (Memory.writeAll s.grid
        (placeWrites c (layoutCells c t s.walk.row s.walk.col) v))).setWalk w)

/-- One micro-step (R164 to R166). PHASE = END has none: a walk that asks for one violates R167. -/
def microStep (c : SizeClass) (s : State) : Result :=
  if s.walk.phase = .finish then .fault .unreachable
  else match s.walk.select c with
    | none => .next (s.setWalk (s.walk.advance c))
    | some t => andThen (placeCodeword c t s) fun s' => .next (s'.setWalk (s'.walk.advance c))

/-- Repeat the micro-step until `stop` holds, at most `bound` times; a walk that needs more violates R167. -/
def repeatUntil (c : SizeClass) (stop : Walk → Bool) : Nat → State → Result
  | 0, _ => .fault .unreachable
  | bound + 1, s =>
    andThen (microStep c s) fun s' => if stop s'.walk then .next s' else repeatUntil c stop bound s'

/-- PHASE == END. -/
def Walk.atEnd (w : Walk) : Bool := w.phase == .finish

/-- End a walk that has reached END: WSTATE <- DONE. UNREACHABLE when it ends with CHR other than N (R167 (c)). -/
def endWalk (c : SizeClass) (s : State) : Result :=
  if s.walk.chr = c.n then .next (s.setWalk { s.walk with wstate := .done }) else .fault .unreachable

/-! ### Bodies shared between commands -/

/-- The effect of PL_CLEAR: the whole GRID is 0 (R152). -/
def plClearBody (s : State) : State := s.setGrid clearedGrid

/-- The effect of PL_FINDER: the finder cells, on and off (R153). -/
def plFinderBody (c : SizeClass) (s : State) : State := s.setGrid (Memory.writeAll s.grid (finderWrites c))

/-- The effect of PL_START (R168): MASK, the walk registers, WSTATE and FIXED. -/
def plStartBody (s : State) : State := (s.setWalk Walk.start).setFixed false

/-- The effect of PL_FIXUP (R172), from a finished walk. A mask that was never cleared cannot belong to one (R39). -/
def plFixupBody (c : SizeClass) (s : State) : Result :=
  match s.walk.mask with
  | none => .fault .unreachable
  | some m =>
    if maskBit m (c.nrow - 1) (c.ncol - 1) then .next (s.setFixed false)
    else .next (((s.setGrid (Memory.writeAll s.grid (fixupWrites c))).setWalk
      { s.walk with mask := some (fixupMask c m) }).setFixed true)

/-- The effect of PL_STEP on an active walk (R169): one codeword, and after the last one the trailing micro-steps. -/
def plStepBody (c : SizeClass) (s : State) : Result :=
  let c0 := s.walk.chr
  andThen (repeatUntil c (fun w => w.chr == c0 + 1 || w.atEnd) s.walkBound s) fun s1 =>
  andThen (if s1.walk.chr = c.n then repeatUntil c Walk.atEnd s1.walkBound s1 else .next s1) fun s2 =>
  if s2.walk.atEnd then endWalk c s2 else .next s2

/-- The effect of PL_RUN (R170): PL_START, the whole walk, PL_FIXUP. -/
def plRunBody (c : SizeClass) (s : State) : Result :=
  andThen (repeatUntil c Walk.atEnd s.walkBound (plStartBody s)) fun s1 =>
  andThen (endWalk c s1) (plFixupBody c)

/-! ### Meanings -/

/-- PL_CLEAR (R152): needs no size class. -/
def execPlClear (s : State) : Result := succeed (plClearBody s)

/-- PL_FINDER (R153). -/
def execPlFinder (s : State) : Result := withClass s fun c => succeed (plFinderBody c s)

/-- PL_START (R168). -/
def execPlStart (s : State) : Result := withClass s fun _ => succeed (plStartBody s)

/-- PL_STEP (R169): WALK_INACTIVE when idle, WALK_OVER when done. -/
def execPlStep (s : State) : Result :=
  withClass s fun c =>
    match s.walk.wstate with
    | .idle => raiseError .walkInactive s
    | .done => raiseError .walkOver s
    | .active => andThen (plStepBody c s) succeed

/-- PL_RUN (R170). -/
def execPlRun (s : State) : Result := withClass s fun c => andThen (plRunBody c s) succeed

/-- PL_FIXUP (R172): WALK_NOT_DONE unless the walk is done. -/
def execPlFixup (s : State) : Result :=
  withClass s fun c =>
    if s.walk.wstate ≠ .done then raiseError .walkNotDone s
    else andThen (plFixupBody c s) succeed

end Sys2Proof.Machine
end

