-- ==== Sys2Proof/Machine/Rs.lean ====
section
/-! DEFINITION. The Reed-Solomon unit and the meanings of RS_GEN, RS_ENC, RS_REM and RS_SYN (R120 to R129).
Coefficient lists have the coefficient of x^0 first (R11). -/

namespace Sys2Proof.Machine

/-! ### Generator -/

/-- Multiply a polynomial by (x + r) (R120): G[k] <- G[k-1] XOR r*G[k], for every k. -/
def mulLinear (r : Byte) (g : List Byte) : List Byte :=
  List.zipWith gfAdd (0 :: g) (g.map (fun c => gfMul c r) ++ [0])

/-- g_s(x) = (x + alpha^1)…(x + alpha^s), as its s+1 coefficients (R120). -/
def generatorPoly : Nat → List Byte
  | 0 => [1]
  | i + 1 => mulLinear (alphaPow (i + 1)) (generatorPoly i)

/-- The array GEN[0..68] after RS_GEN s: the entries above s are 0 (R34, R121). -/
def generatorArray (s : Nat) : Vector Byte 69 := bytes 69 (fun k => (generatorPoly s).getD k 0)

/-! ### Division and evaluation -/

/-- One step of the division register r, where r[j] is the coefficient of x^j: shift up, bring `low` into r[0], and
add `fb` times the generator (R124, R128). -/
def divStep (g : List Byte) (low fb : Byte) (r : List Byte) : List Byte :=
  List.zipWith gfAdd (low :: r.dropLast) (g.map (gfMul fb))

/-- r[s-1], the highest coefficient of the division register. -/
def topOf (r : List Byte) : Byte := r.getLastD 0

/-- The register of R124 after the codewords `ds`: the remainder of d(x)*x^s. -/
def encodeRegister (g : List Byte) (ds : List Byte) : List Byte :=
  ds.foldl (fun r d => divStep g 0 (gfAdd d (topOf r)) r) (List.replicate g.length 0)

/-- The correction codewords ecc[0..s-1] of one block: the register, highest degree first (R123, R124). -/
def rsRemainder (g : List Byte) (ds : List Byte) : List Byte := (encodeRegister g ds).reverse

/-- The register of R128 after the codewords `cs`: the remainder of c(x). -/
def checkRegister (g : List Byte) (cs : List Byte) : List Byte :=
  cs.foldl (fun r c => divStep g c (topOf r) r) (List.replicate g.length 0)

/-- Horner evaluation of a codeword sequence at x (R129). -/
def horner (x : Byte) (cs : List Byte) : Byte :=
  cs.foldl (fun acc c => gfAdd (gfMul acc x) c) 0

/-! ### Bodies shared with SYMBOL -/

/-- The effect of RS_GEN s for 1 <= s <= 68: GEN and GEN_S (R121). -/
def rsGenBody (deg : Nat) (s : State) : State := s.setGen (BitVec.ofNat 7 deg) (generatorArray deg)

/-- The cells RS_ENC writes for block k (R125); none when a data codeword holds no value. -/
def blockWrites (c : SizeClass) (g : List Byte) (cw : Memory) (k : Nat) : Option (List Host.Cell) :=
  (Memory.readAll cw (dataIndices c k)).map (fun ds => (eccIndices c k).zip (rsRemainder g ds))

/-- The cells RS_ENC writes for the blocks listed, all computed from the buffer at issue (R126). -/
def encodeWrites (c : SizeClass) (g : List Byte) (cw : Memory) : List Nat → Option (List Host.Cell)
  | [] => some []
  | k :: ks =>
    match blockWrites c g cw k, encodeWrites c g cw ks with
    | some ws, some rest => some (ws ++ rest)
    | _, _ => none

/-- The effect of RS_ENC once its checks have passed: CW[D..N-1] (R126). -/
def rsEncBody (c : SizeClass) (s : State) : Result :=
  match encodeWrites c (s.genCoeffs c.s) s.cw (List.range c.b) with
  | none => .fault .uninitRead
  | some ws => .next (s.setCw (Memory.writeAll s.cw ws))

/-- The checks RS_REM and RS_SYN share, in order: BAD_SIZE, BAD_BLOCK, GEN_MISMATCH (R128, R129, R212); then the
codewords of block k, each of which must hold a value. -/
def withBlock (k : Nat) (s : State) (f : SizeClass → List Byte → Result) : Result :=
  withClass s fun c =>
    if c.b ≤ k then raiseError .badBlock s
    else if s.genS.toNat ≠ c.s then raiseError .genMismatch s
    else match Memory.readAll s.cw (blockIndices c k) with
      | none => .fault .uninitRead
      | some cs => f c cs

/-- REM[0..67] for a block (R128): the remainder, highest degree first, then zeros. -/
def remArray (g : List Byte) (cs : List Byte) : Vector Byte 68 :=
  bytes 68 (fun i => (checkRegister g cs).reverse.getD i 0)

/-- SYN[0..67] for a block (R129): S_1 to S_s, then zeros. -/
def synArray (deg : Nat) (cs : List Byte) : Vector Byte 68 :=
  bytes 68 (fun i => if i < deg then horner (alphaPow (i + 1)) cs else 0)

/-- Whether the first s entries of an output array are all 0 (R128, R129: ZERO). -/
def allZero (deg : Nat) (out : Vector Byte 68) : Bool :=
  (List.range deg).all (fun i => out.toList.getD i 0 == 0)

/-! ### Meanings -/

/-- RS_GEN s (R121): BAD_S unless 1 <= s <= 68. -/
def execRsGen (deg : Nat) (s : State) : Result :=
  if 1 ≤ deg ∧ deg ≤ Config.maxS then succeed (rsGenBody deg s) else raiseError .badS s

/-- RS_ENC (R126): BAD_SIZE, then GEN_MISMATCH. -/
def execRsEnc (s : State) : Result :=
  withClass s fun c =>
    if s.genS.toNat ≠ c.s then raiseError .genMismatch s
    else andThen (rsEncBody c s) succeed

/-- RS_REM k (R128). -/
def execRsRem (k : Nat) (s : State) : Result :=
  withBlock k s fun c cs =>
    let out := remArray (s.genCoeffs c.s) cs
    succeed (s.setRem out (allZero c.s out))

/-- RS_SYN k (R129). -/
def execRsSyn (k : Nat) (s : State) : Result :=
  withBlock k s fun c cs =>
    let out := synArray c.s cs
    succeed (s.setSyn out (allZero c.s out))

end Sys2Proof.Machine
end

