-- ==== Sys2Proof/Machine/Symbol.lean ====
section
/-! DEFINITION. The composite command SYMBOL (R200). -/

namespace Sys2Proof.Machine

/-- SYMBOL (R200): the bodies of RS_GEN s, RS_ENC, PL_CLEAR, PL_FINDER and PL_RUN, with one completion. -/
def execSymbol (s : State) : Result :=
  withClass s fun c =>
    andThen (rsEncBody c (rsGenBody c.s s)) fun s1 =>
    andThen (plRunBody c (plFinderBody c (plClearBody s1))) succeed

end Sys2Proof.Machine
end

