-- ==== Sys2Proof/Machine/Dispatch.lean ====
section
/-! DEFINITION. The meaning of every command, one arm each (R210: perform d on the current state). -/

namespace Sys2Proof.Machine

/-- Perform a decoded command and complete it (R210). -/
def exec (i : Instr) (s : State) : Host.Outcome State Fault Refusal :=
  match i with
  | .nop => Sys2Proof.Machine.execNop s
  | .gfAdd a b => Sys2Proof.Machine.execGfAdd a b s
  | .gfMul a b => Sys2Proof.Machine.execGfMul a b s
  | .gfDiv a b => Sys2Proof.Machine.execGfDiv a b s
  | .gfExp e => Sys2Proof.Machine.execGfExp e s
  | .gfLog a => Sys2Proof.Machine.execGfLog a s
  | .rsGen n => Sys2Proof.Machine.execRsGen n s
  | .rsEnc => Sys2Proof.Machine.execRsEnc s
  | .rsRem k => Sys2Proof.Machine.execRsRem k s
  | .rsSyn k => Sys2Proof.Machine.execRsSyn k s
  | .plClear => Sys2Proof.Machine.execPlClear s
  | .plFinder => Sys2Proof.Machine.execPlFinder s
  | .plStart => Sys2Proof.Machine.execPlStart s
  | .plStep => Sys2Proof.Machine.execPlStep s
  | .plRun => Sys2Proof.Machine.execPlRun s
  | .plFixup => Sys2Proof.Machine.execPlFixup s
  | .symbol => Sys2Proof.Machine.execSymbol s

end Sys2Proof.Machine
end

