-- ==== Sys2Proof/Machine/Engine.lean ====
section
/-! DEFINITION. The ENGINE's transition (R210) and who moves next (R80, R210, R250). -/

namespace Sys2Proof.Machine

/-- The engine step (R210). It is enabled only while PENDING holds a word; an illegal word completes with ILLEGAL_OP
(R93). -/
def engineStep (s : State) : Result :=
  match s.pending with
  | none => .next s
  | some w =>
    match decode w with
    | .error _ => raiseError .illegalOp s
    | .ok i => exec i s

/-- Who moves next: the first of `turns`; when the list is empty, the ENGINE while a command is pending, else the HOST
(R250: the engine step is eventually taken). -/
def State.nextTurn (s : State) : Turn :=
  match s.turns with
  | t :: _ => t
  | [] => if s.busy then .engine else .host

/-- The state with its first turn used up. -/
def State.popTurn (s : State) : State := { s with turns := s.turns.tail }

/-- Take one turn. -/
def takeTurn (t : Turn) (s : State) : Result :=
  match t with
  | .host => .next (hostTurn s)
  | .engine => engineStep s
  | .pinReset => .next (pinReset s)

/-- Place a command word where the engine takes its next one, PENDING with its copy in CMD, and give the engine the next
turn (R25, R42). -/
def placeCommand (w : Word) (s : State) : State :=
  { s with pending := some w, cmd := w, turns := .engine :: s.turns }

end Sys2Proof.Machine
end

