-- ==== Sys2Proof/Safety.lean ====
section
/-! DEFINITION. What claims count as a safe run (R220, R251), and the invariant of the machine: canonical memories
(R37, R38), a loaded generator that is the generator of its degree (R29, R34), CMD as the copy of PENDING (R25), and a
walk that is reached from PL_START by micro-steps (R39, R167). -/

namespace Sys2Proof.Machine

/-- A step that ends in no model fault and no refusal. -/
def State.Safe (s : State) : Prop := ∃ t, step s = .next t

/-- No model fault for `k` steps: what a claim about a program must show (R220, R251). -/
def State.SafeFor (k : Nat) (s : State) : Prop := ∃ t, Sys2Proof.core.run k s = .next t

/-- The codeword buffer is canonical and holds only CW[0..2177] (R37). -/
def cwOk (m : Memory) : Bool := Memory.wf m && m.all (fun cell => decide (cell.1 < Config.cwSize))

/-- The key is the key of a GRID cell (R38, R73). -/
def isGridKey (key : Nat) : Bool :=
  decide (key % 256 < Config.gridDim) && decide (key / 256 < Config.gridDim)

/-- The grid is canonical, holds only GRID[0..143, 0..143], and each cell is one bit (R38). -/
def gridOk (m : Memory) : Bool :=
  Memory.wf m && m.all (fun cell => isGridKey cell.1 && (cell.2 == 0 || cell.2 == 1))

/-- GEN_S is 0 or 1..68, and GEN is what RS_GEN leaves for that degree; all 0 for degree 0 (R29, R34, R121). -/
def State.GenOk (s : State) : Prop :=
  s.genS.toNat ≤ Config.maxS ∧
  s.gen = if s.genS.toNat = 0 then Vector.replicate 69 0 else generatorArray s.genS.toNat

/-- CMD holds the pending word (R25, R42). -/
def State.PendingOk (s : State) : Prop := ∀ w, s.pending = some w → s.cmd = w

/-- An active walk is some number of micro-steps from PL_START, not at END, with a codeword left to place; a finished
one is such a walk at END with CHR = N, before or after the fixup (R39, R167, R172). -/
def State.WalkOk (s : State) : Prop :=
  match s.walk.wstate with
  | .idle => True
  | .active =>
    ∃ c n, s.sizeClass? = some c ∧ walkAfter c n = some s.walk ∧ s.walk.phase ≠ .finish ∧ s.walk.chr < c.n
  | .done =>
    ∃ c n w m, s.sizeClass? = some c ∧ walkAfter c n = some w ∧ w.phase = .finish ∧ w.chr = c.n ∧ w.mask = some m ∧
      (s.walk = { w with wstate := .done } ∨ s.walk = { w with wstate := .done, mask := some (fixupMask c m) })

/-- The invariant that every step keeps. -/
def State.Inv (s : State) : Prop :=
  cwOk s.cw = true ∧ gridOk s.grid = true ∧ s.GenOk ∧ s.PendingOk ∧ s.WalkOk

/-- The cursor registers stay within the largest range of R32: -1..nrow+8 and 0..ncol+3 with nrow, ncol at most 132;
CHR is an index 0..2178 (R40). -/
def Walk.InRange (w : Walk) : Prop :=
  (-1 ≤ w.row ∧ w.row ≤ 140) ∧ (0 ≤ w.col ∧ w.col ≤ 135) ∧
  (-1 ≤ w.lastRow ∧ w.lastRow ≤ 140) ∧ (0 ≤ w.lastCol ∧ w.lastCol ≤ 135) ∧ w.chr ≤ Config.cwSize

end Sys2Proof.Machine
end

