-- ==== Sys2Proof/Certificates/Slice0/Obligations.lean ====
section
/-! DEFINITION. The statements for the provers: what the rules of spec/ say of the commands, the bus, reset and the
walk. The namespace Claims holds the spec-side definitions the statements compare the machine with. -/

namespace Sys2Proof.Claims

open Sys2Proof.Machine

/-! ### Completion -/

/-- `s` after a command that ends with an error: DONE, ERR and ERRCODE, and PENDING empty (R210, R213). -/
def failed (code : ErrCode) (s : State) : State :=
  { s with done := true, err := true, errCode := code, pending := none }

/-- A pending word with this OP completes with ILLEGAL_OP when it is `bad`, and is performed as `mk w` otherwise
(R93, R210). -/
def RunsAs (op : Byte) (bad : Word → Prop) (mk : Word → Instr) : Prop :=
  ∀ (s : State) (w : Word), s.pending = some w → w.extractLsb' 0 8 = op →
    (bad w → engineStep s = .next (failed .illegalOp s)) ∧ (¬ bad w → engineStep s = exec (mk w) s)

/-- Some bit of w[31:8] is set. -/
def badAbove8 (w : Word) : Prop := w.extractLsb' 8 24 ≠ 0

/-- Some bit of w[31:16] is set. -/
def badAbove16 (w : Word) : Prop := w.extractLsb' 16 16 ≠ 0

/-- Some bit of w[31:24] is set. -/
def badAbove24 (w : Word) : Prop := w.extractLsb' 24 8 ≠ 0

/-- The A field as a number (R91). -/
def numA (w : Word) : Nat := (w.extractLsb' 8 8).toNat

/-- Commands performed one after the other from `s`, each completing without error, leave `t`. -/
def CleanRun : List Instr → State → State → Prop
  | [], s, t => t = s
  | i :: is, s, t => ∃ u, exec i s = .next u ∧ u.errCode = .none ∧ CleanRun is u t

/-- The codewords CW[0..n-1] all hold a value. -/
def CwHeld (s : State) (n : Nat) : Prop := ∀ i, i < n → (s.cwAt i).isSome = true

/-! ### Polynomials over GF(256), the coefficient of x^0 first (R11) -/

/-- The value at x. -/
def evalLow (p : List Byte) (x : Byte) : Byte := p.foldr (fun a acc => gfAdd a (gfMul x acc)) 0

/-- Sum of two polynomials. -/
def addLow : List Byte → List Byte → List Byte
  | [], q => q
  | a :: p, [] => a :: p
  | a :: p, b :: q => gfAdd a b :: addLow p q

/-- Product of two polynomials. -/
def mulLow : List Byte → List Byte → List Byte
  | [], _ => []
  | a :: p, q => addLow (q.map (gfMul a)) (0 :: mulLow p q)

/-- The value at alpha^j of a codeword sequence, whose first codeword has the highest degree (R13). -/
def evalSeq (j : Nat) : List Byte → Byte
  | [] => 0
  | a :: rest => gfAdd (gfMul a (alphaPow (j * rest.length))) (evalSeq j rest)

/-! ### Errors -/

/-- The error a command raises, the first whose condition holds in the order of R212: BAD_SIZE, the operand checks,
GEN_MISMATCH, the walk-state checks. -/
def firstError (s : State) (i : Instr) : ErrCode :=
  let noClass : Bool := decide (30 ≤ s.sizeSel.toNat)
  let blocks : Nat := (s.sizeClass?.map (·.b)).getD 0
  let mismatch : Bool := s.sizeClass?.any (fun c => s.genS.toNat != c.s)
  let first (checks : List (Bool × ErrCode)) : ErrCode := ((checks.find? (·.1)).map (·.2)).getD .none
  match i with
  | .nop | .gfAdd _ _ | .gfMul _ _ | .gfExp _ | .plClear => .none
  | .gfDiv _ b => first [(b == 0, .divZero)]
  | .gfLog a => first [(a == 0, .logZero)]
  | .rsGen n => first [(n == 0 || decide (68 < n), .badS)]
  | .rsEnc => first [(noClass, .badSize), (mismatch, .genMismatch)]
  | .rsRem k | .rsSyn k => first [(noClass, .badSize), (decide (blocks ≤ k), .badBlock), (mismatch, .genMismatch)]
  | .plFinder | .plStart | .plRun | .symbol => first [(noClass, .badSize)]
  | .plStep =>
    first [(noClass, .badSize), (s.walk.wstate == .idle, .walkInactive), (s.walk.wstate == .done, .walkOver)]
  | .plFixup => first [(noClass, .badSize), (s.walk.wstate != .done, .walkNotDone)]

/-- The codes each command can record (R211, the column "raised by"), with its number. -/
def raisedBy : List (Nat × ErrCode × List String) := [
  (2, .divZero, ["GF_DIV"]),
  (3, .logZero, ["GF_LOG"]),
  (4, .badS, ["RS_GEN"]),
  (5, .badSize, ["RS_ENC", "RS_REM", "RS_SYN", "PL_FINDER", "PL_START", "PL_STEP", "PL_RUN", "PL_FIXUP", "SYMBOL"]),
  (6, .genMismatch, ["RS_ENC", "RS_REM", "RS_SYN"]),
  (7, .badBlock, ["RS_REM", "RS_SYN"]),
  (8, .walkInactive, ["PL_STEP"]),
  (9, .walkOver, ["PL_STEP"]),
  (10, .walkNotDone, ["PL_FIXUP"])]

/-! ### The address map -/

/-- The byte address of a location (R73). -/
def addressOf : Location → Nat
  | .id => 0x00000
  | .status => 0x00004
  | .ctrl => 0x00008
  | .cmd => 0x0000C
  | .result => 0x00010
  | .size => 0x00014
  | .geom k => 0x00018 + 4 * k
  | .genS => 0x00028
  | .plCur => 0x0002C
  | .plInfo => 0x00030
  | .plLast => 0x00034
  | .gen k => 0x00400 + 4 * k
  | .rem i => 0x00600 + 4 * i
  | .syn i => 0x00800 + 4 * i
  | .cw i => 0x04000 + 4 * i
  | .grid x y => 0x20000 + 4 * (256 * y + x)

/-- The indices R73 lists for each array. -/
def Listed : Location → Prop
  | .id | .status | .ctrl | .cmd | .result | .size | .genS | .plCur | .plInfo | .plLast => True
  | .geom k => k < 4
  | .gen k => k < 69
  | .rem i | .syn i => i < 68
  | .cw i => i < 2178
  | .grid x y => x < 144 ∧ y < 144

/-- The locations whose read while BUSY is a draw (R81). -/
def Drawn (l : Location) : Prop :=
  l = .result ∨ l = .genS ∨ (∃ k, l = .gen k) ∨ (∃ i, l = .rem i) ∨ (∃ i, l = .syn i) ∨ (∃ i, l = .cw i) ∨
  (∃ x y, l = .grid x y) ∨ l = .plCur ∨ l = .plInfo ∨ l = .plLast

/-- The reserved bits of the drawn locations (R27, R29, R30, R73): all but the field. -/
def reservedBits : Location → Word
  | .result | .gen _ | .rem _ | .syn _ | .cw _ => 0xFFFFFF00
  | .genS => 0xFFFFFF80
  | .grid _ _ => 0xFFFFFFFE
  | .plInfo => 0xFFFC8000
  | .plCur | .plLast | .id | .status | .ctrl | .cmd | .size | .geom _ => 0

/-- The locations a write can change (R73). -/
def Writable (l : Location) : Prop :=
  l = .status ∨ l = .ctrl ∨ l = .cmd ∨ l = .size ∨ (∃ i, l = .cw i) ∨ ∃ x y, l = .grid x y

/-! ### What a command may change -/

/-- The commands that write RESULT (R27). -/
def writesResult : Instr → Bool
  | .gfAdd _ _ | .gfMul _ _ | .gfDiv _ _ | .gfExp _ | .gfLog _ => true
  | .nop | .rsGen _ | .rsEnc | .rsRem _ | .rsSyn _ | .plClear | .plFinder | .plStart | .plStep | .plRun | .plFixup
  | .symbol => false

/-- The commands that write GEN and GEN_S (R29, R87). -/
def writesGen : Instr → Bool
  | .rsGen _ | .symbol => true
  | .nop | .gfAdd _ _ | .gfMul _ _ | .gfDiv _ _ | .gfExp _ | .gfLog _ | .rsEnc | .rsRem _ | .rsSyn _ | .plClear
  | .plFinder | .plStart | .plStep | .plRun | .plFixup => false

/-- The commands that write the walk registers, WSTATE and MASK (R87, R168). -/
def writesWalk : Instr → Bool
  | .plStart | .plStep | .plRun | .plFixup | .symbol => true
  | .nop | .gfAdd _ _ | .gfMul _ _ | .gfDiv _ _ | .gfExp _ | .gfLog _ | .rsGen _ | .rsEnc | .rsRem _ | .rsSyn _
  | .plClear | .plFinder => false

/-- The commands that write FIXED (R41, R168). -/
def writesFixed : Instr → Bool
  | .plStart | .plRun | .plFixup | .symbol => true
  | .nop | .gfAdd _ _ | .gfMul _ _ | .gfDiv _ _ | .gfExp _ | .gfLog _ | .rsGen _ | .rsEnc | .rsRem _ | .rsSyn _
  | .plClear | .plFinder | .plStep => false

/-- Two states that agree on everything a command reads or writes, apart from the status bits of earlier commands:
all of the block but DONE, ERR, OVR, BUSERR, ERRCODE and IE. -/
def SameBlock (s t : State) : Prop :=
  s.pending = t.pending ∧ s.cmd = t.cmd ∧ s.result = t.result ∧ s.sizeSel = t.sizeSel ∧ s.genS = t.genS ∧
  s.gen = t.gen ∧ s.rem = t.rem ∧ s.syn = t.syn ∧ s.cw = t.cw ∧ s.grid = t.grid ∧ s.walk = t.walk ∧
  s.zero = t.zero ∧ s.fixed = t.fixed

/-- The transaction is not a write of 1 to CTRL.SRST. -/
def NotSoftReset : Transaction → Prop
  | .read _ _ => True
  | .write addr width v => width = .word ∧ addr = 0x00008 → v.getLsbD 1 = false

/-! ### The walk -/

/-- One case of the finder function (R151), read without a priority among the cases. -/
def FinderCase (c : SizeClass) (x y : Nat) (b : Bool) : Prop :=
  (x % (c.rw + 2) = 0 ∧ b = true) ∨
  (y % (c.rh + 2) = c.rh + 1 ∧ b = true) ∨
  (y % (c.rh + 2) = 0 ∧ b = (x % 2 == 0)) ∨
  (x % (c.rw + 2) = c.rw + 1 ∧ b = (y % 2 == 1))

/-- `n` micro-steps of the control from `w`. -/
def microSteps (c : SizeClass) : Nat → Walk → Option Walk
  | 0, w => some w
  | n + 1, w =>
    match w.microStep c with
    | none => none
    | some w' => microSteps c n w'

/-- The offsets (dr, dc) of the nominal layout, L[1] first (R156). -/
def offsets : List (Int × Int) := [(-2, -2), (-2, -1), (-1, -2), (-1, -1), (-1, 0), (0, -2), (0, -1), (0, 0)]

/-- The walk with the cursor moved up and to the right, or turned down when it leaves the matrix (R165). -/
def movedUp (c : SizeClass) (w : Walk) : Walk :=
  if w.row - 2 ≥ 0 ∧ w.col + 2 < c.ncol then { w with row := w.row - 2, col := w.col + 2 }
  else { w with row := w.row - 1, col := w.col + 5, phase := .down }

/-- The walk with the cursor moved down and to the left, or turned when it leaves the matrix: to the corner test, or to
END (R166). -/
def movedDown (c : SizeClass) (w : Walk) : Walk :=
  if w.row + 2 < c.nrow ∧ w.col - 2 ≥ 0 then { w with row := w.row + 2, col := w.col - 2 }
  else if w.row + 5 < c.nrow ∨ w.col - 1 < c.ncol then { w with row := w.row + 5, col := w.col - 1, phase := .corner }
  else { w with row := w.row + 5, col := w.col - 1, phase := .finish }

/-- The cursor cell lies in the matrix and is not assigned (R165, R166). -/
def CursorFree (c : SizeClass) (m : MaskBits) (w : Walk) : Prop :=
  0 ≤ w.row ∧ w.row < c.nrow ∧ 0 ≤ w.col ∧ w.col < c.ncol ∧ maskBit m w.row w.col = false

/-- The corner layouts that fire in the first `n` micro-steps, each with the cursor and CHR. -/
def cornerFirings (c : SizeClass) : Nat → List (Layout × Int × Int × Nat)
  | 0 => []
  | n + 1 =>
    match walkAfter c n with
    | none => cornerFirings c n
    | some w =>
      if w.phase = .corner then
        match cornerLayout c w.row w.col with
        | none => cornerFirings c n
        | some t => cornerFirings c n ++ [(t, w.row, w.col, w.chr)]
      else cornerFirings c n

/-- The columns "corners (CHR)", "fixup", "micro-steps" and "END cursor" of R173, by class. -/
def walkTable : List (List (Layout × Int × Int × Nat) × Bool × Nat × Int × Int) := [
  ([], false, 16, 12, 8),
  ([], true, 23, 16, 12),
  ([(.cornerA, 12, 0, 7)], false, 29, 16, 12),
  ([(.cornerB, 12, 0, 7)], true, 40, 20, 16),
  ([], false, 48, 20, 16),
  ([], true, 59, 24, 20),
  ([(.cornerA, 20, 0, 22)], false, 69, 24, 20),
  ([(.cornerB, 20, 0, 22)], true, 84, 28, 24),
  ([], false, 96, 28, 24),
  ([(.cornerA, 28, 0, 45)], false, 125, 32, 28),
  ([], false, 160, 36, 32),
  ([(.cornerA, 36, 0, 76)], false, 197, 40, 36),
  ([], false, 240, 44, 40),
  ([(.cornerA, 44, 0, 115)], false, 285, 48, 44),
  ([], false, 336, 52, 48),
  ([], false, 448, 60, 56),
  ([], false, 576, 68, 64),
  ([], false, 720, 76, 72),
  ([], false, 880, 84, 80),
  ([], false, 1056, 92, 88),
  ([], false, 1248, 100, 96),
  ([(.cornerA, 108, 0, 715)], false, 1565, 112, 108),
  ([], false, 1920, 124, 120),
  ([(.cornerA, 132, 0, 1072)], false, 2309, 136, 132),
  ([(.cornerD, 10, 2, 6)], false, 24, 10, 18),
  ([(.cornerC, 4, 0, 0)], false, 42, 14, 30),
  ([], false, 50, 18, 26),
  ([], false, 65, 18, 34),
  ([(.cornerD, 18, 2, 21)], false, 81, 18, 34),
  ([(.cornerC, 12, 0, 7)], false, 111, 22, 46)]

end Sys2Proof.Claims

section

open Sys2Proof Sys2Proof.Machine Sys2Proof.Claims

/-! ### GF(256) -/

/-- R102: NOP changes only DONE and ERRCODE (and empties PENDING, R210). -/
def Obligations.NopChangesOnlyDoneAndErrcode : Prop :=
  RunsAs 0x00 badAbove8 (fun _ => .nop) ∧
  ∀ s : State, exec .nop s = .next { s with done := true, errCode := .none, pending := none }

/-- R103, R100: RESULT is a XOR b; the frame is the rest of the record. -/
def Obligations.GfAddIsXor : Prop :=
  RunsAs 0x01 badAbove24 (fun w => .gfAdd (w.extractLsb' 8 8) (w.extractLsb' 16 8)) ∧
  ∀ (s : State) (a b : Byte),
    exec (.gfAdd a b) s = .next { s with result := a ^^^ b, done := true, errCode := .none, pending := none }

/-- R104: RESULT is 0 when an operand is 0 and EXP[(LOG[a] + LOG[b]) mod 255] otherwise; every non-zero operand has a
logarithm; the corner cases of the rule. -/
def Obligations.GfMulByLogTables : Prop :=
  RunsAs 0x02 badAbove24 (fun w => .gfMul (w.extractLsb' 8 8) (w.extractLsb' 16 8)) ∧
  (∀ (s : State) (a b : Byte), ∃ r : Byte,
    exec (.gfMul a b) s = .next { s with result := r, done := true, errCode := .none, pending := none } ∧
    exec (.gfMul b a) s = .next { s with result := r, done := true, errCode := .none, pending := none } ∧
    (a = 0 ∨ b = 0 → r = 0) ∧
    (a = 1 → r = b) ∧
    (a ≠ 0 → b ≠ 0 → ∃ la lb, logRom a = some la ∧ logRom b = some lb ∧ r = expRom ((la + lb) % 255))) ∧
  gfMul 0x80 0x02 = 0x2D ∧ gfMul 0xFF 0xFF = 0x34 ∧ gfMul 0x53 0xCA = 0x4B

/-- R101: the table form and the polynomial form of the product agree on every pair. -/
def Obligations.GfMulIsPolynomialProductModP : Prop :=
  ∀ a b : Byte, gfMulPoly a b = gfMul a b ∧
    (a = 0 ∨ b = 0 → gfMul a b = 0) ∧
    (∀ la lb, logRom a = some la → logRom b = some lb → gfMul a b = expRom ((la + lb) % 255)) ∧
    (a ≠ 0 → (logRom a).isSome = true)

/-- R105: DIV_ZERO on a zero divisor, RESULT kept; otherwise the quotient by the tables, and it is the quotient. -/
def Obligations.GfDivIsQuotientOrDivZero : Prop :=
  RunsAs 0x03 badAbove24 (fun w => .gfDiv (w.extractLsb' 8 8) (w.extractLsb' 16 8)) ∧
  (∀ (s : State) (a : Byte), exec (.gfDiv a 0) s = .next (failed .divZero s)) ∧
  (∀ (s : State) (a b : Byte), b ≠ 0 → ∃ q : Byte,
    exec (.gfDiv a b) s = .next { s with result := q, done := true, errCode := .none, pending := none } ∧
    gfMul q b = a ∧ (a = 0 → q = 0) ∧ (a = b → q = 1) ∧
    (∀ la lb : Nat, logRom a = some la → logRom b = some lb →
      q = expRom (((la : Int) - (lb : Int)) % 255).toNat)) ∧
  gfDiv 1 2 = some 0x96 ∧ gfDiv 0x2D 2 = some 0x80

/-- R106: RESULT is EXP[e mod 255], which is e doublings of 1 for every exponent. -/
def Obligations.GfExpIsAlphaToTheE : Prop :=
  RunsAs 0x04 badAbove16 (fun w => .gfExp (numA w)) ∧
  (∀ (s : State) (e : Nat),
    exec (.gfExp e) s = .next { s with result := expRom (e % 255), done := true, errCode := .none, pending := none } ∧
    expRom (e % 255) = gfDouble^[e] 1) ∧
  expRom (0 % 255) = 1 ∧ expRom (255 % 255) = 1 ∧ expRom (8 % 255) = 0x2D ∧ expRom (254 % 255) = 0x96 ∧
  expRom (7 % 255) = 0x80

/-- R107: LOG_ZERO on 0; otherwise RESULT is the one exponent below 255 of the operand. -/
def Obligations.GfLogIsExponentOrLogZero : Prop :=
  RunsAs 0x05 badAbove16 (fun w => .gfLog (w.extractLsb' 8 8)) ∧
  (∀ s : State, exec (.gfLog 0) s = .next (failed .logZero s)) ∧
  (∀ (s : State) (a : Byte), a ≠ 0 → ∃ n : Nat, logRom a = some n ∧ n < 255 ∧ expRom n = a ∧
    (∀ m, m < 255 → expRom m = a → m = n) ∧
    exec (.gfLog a) s =
      .next { s with result := BitVec.ofNat 8 n, done := true, errCode := .none, pending := none }) ∧
  logRom 1 = some 0 ∧ logRom 2 = some 1 ∧ logRom 0x2D = some 8 ∧ logRom 0xFF = some 150 ∧ logRom 3 = some 240 ∧
  logRom 0x80 = some 7

/-- R43: EXP[0] = 1, each entry is the doubled and reduced one before, and the entries are distinct and cover 1..255. -/
def Obligations.ExpTableByDoubling : Prop :=
  expRom 0 = 1 ∧
  (∀ i, i < 254 →
    (expRom (i + 1)).toNat =
      if 2 * (expRom i).toNat > 255 then (2 * (expRom i).toNat) ^^^ 0x12D else 2 * (expRom i).toNat) ∧
  (∀ i j, i < 255 → j < 255 → expRom i = expRom j → i = j) ∧
  (∀ a : Byte, a ≠ 0 → ∃ i, i < 255 ∧ expRom i = a)

/-- R108: the field laws. -/
def Obligations.FieldLaws : Prop :=
  (∀ a : Byte, gfAdd a a = 0 ∧ gfAdd a 0 = a ∧ gfMul 1 a = a ∧ gfMul 0 a = 0) ∧
  (∀ a b : Byte, gfMul a b = gfMul b a) ∧
  (∀ a b c : Byte, gfMul (gfMul a b) c = gfMul a (gfMul b c)) ∧
  (∀ a b c : Byte, gfMul a (gfAdd b c) = gfAdd (gfMul a b) (gfMul a c)) ∧
  (∀ a b : Byte, b ≠ 0 → ∃ q, gfDiv a b = some q ∧ gfMul q b = a) ∧
  (∀ a : Byte, a ≠ 0 → ∃ n, logRom a = some n ∧ expRom n = a) ∧
  alphaPow 255 = alphaPow 0 ∧ alphaPow 0 = 1 ∧
  (∀ a : Byte, a ≠ 0 → ∃ n, n < 255 ∧ alphaPow n = a ∧ ∀ m, m < 255 → alphaPow m = a → m = n)

/-! ### Reed-Solomon -/

/-- R121: BAD_S outside 1..68; otherwise GEN_S = s, GEN[k] = 0 above s, GEN[s] = 1, and GEN is the array of R120.
Nothing else changes. -/
def Obligations.RsGenLoadsGenerator : Prop :=
  RunsAs 0x10 badAbove16 (fun w => .rsGen (numA w)) ∧
  (∀ (s : State) (n : Nat), n = 0 ∨ 68 < n → exec (.rsGen n) s = .next (failed .badS s)) ∧
  (∀ (s : State) (n : Nat), 1 ≤ n → n ≤ 68 → ∃ g : Vector Byte 69,
    exec (.rsGen n) s = .next { s with gen := g, genS := BitVec.ofNat 7 n, done := true, errCode := .none, pending := none } ∧
    (∀ k, k ≤ n → g.toList[k]? = (generatorPoly n)[k]?) ∧ g.toList[n]? = some 1 ∧
    (∀ k, n < k → k ≤ 68 → g.toList[k]? = some 0)) ∧
  (generatorArray 5).toList.take 6 = [228, 48, 15, 111, 62, 1] ∧ (generatorArray 1).toList.take 2 = [2, 1]

/-- R120: the coefficients of g_s are those of the product (x + alpha^1)…(x + alpha^s): monic of degree s, with that
product as its value at every x (fewer than 256 coefficients, so the values determine them); none of the s+1
coefficients is 0. -/
def Obligations.GeneratorIsProductOfRoots : Prop :=
  ∀ n, 1 ≤ n → n ≤ 68 →
    (generatorPoly n).length = n + 1 ∧ (generatorPoly n)[n]? = some 1 ∧
    (∀ x : Byte, evalLow (generatorPoly n) x =
      (List.range n).foldl (fun acc i => gfMul acc (gfAdd x (alphaPow (i + 1)))) 1) ∧
    (∀ a ∈ generatorPoly n, a ≠ 0)

/-- R126 with R122, R125: the errors of RS_ENC; UNINIT_READ when a data codeword holds no value; otherwise the s
correction codewords of each block at CW[D + k + i*b], every other codeword kept, and nothing else changed. -/
def Obligations.RsEncWritesInterleavedCorrection : Prop :=
  RunsAs 0x11 badAbove8 (fun _ => .rsEnc) ∧
  (∀ s : State, s.sizeClass? = none → exec .rsEnc s = .next (failed .badSize s)) ∧
  (∀ (s : State) (c : SizeClass), s.sizeClass? = some c → s.genS.toNat ≠ c.s →
    exec .rsEnc s = .next (failed .genMismatch s)) ∧
  (∀ (s : State) (c : SizeClass), s.sizeClass? = some c → s.genS.toNat = c.s → ¬ CwHeld s c.d →
    exec .rsEnc s = .fault .uninitRead) ∧
  (∀ (s : State) (c : SizeClass), s.sizeClass? = some c → s.genS.toNat = c.s → CwHeld s c.d →
    ∃ m : Memory, exec .rsEnc s = .next { s with cw := m, done := true, errCode := .none, pending := none } ∧
      (∀ k, k < c.b → ∃ ds, Memory.readAll s.cw (dataIndices c k) = some ds ∧
        ∀ i, i < c.s → (rsRemainder (s.genCoeffs c.s) ds)[i]?.isSome = true ∧
          Memory.read m (c.d + k + i * c.b) = (rsRemainder (s.genCoeffs c.s) ds)[i]?) ∧
      (∀ j, ¬ (c.d ≤ j ∧ j < c.n) → Memory.read m j = Memory.read s.cw j)) ∧
  rsRemainder [23, 68, 144, 134, 240, 92, 254] [85, 70, 84, 85, 129] = [125, 231, 139, 243, 125, 208, 115]

/-- R123, R124: the shift-register form of the encoder is division: for every coefficient list g of a monic generator
x^s + … and every data sequence d there is a quotient q with q*g + r = d(x)*x^s, where r has s coefficients and is the
remainder, and the emitted codewords are r, highest degree first. -/
def Obligations.EncoderRegisterIsDivisionRemainder : Prop :=
  ∀ (g ds : List Byte), ∃ q : List Byte,
    q.length = ds.length ∧ (rsRemainder g ds).length = g.length ∧
    addLow (mulLow q (g ++ [1])) (rsRemainder g ds).reverse = List.replicate g.length 0 ++ ds.reverse

/-- R131: linearity of the correction codewords, the zero block, and a single codeword at the last position. -/
def Obligations.CorrectionIsLinear : Prop :=
  (∀ (g xs ys : List Byte), xs.length = ys.length →
    rsRemainder g (List.zipWith gfAdd xs ys) = List.zipWith gfAdd (rsRemainder g xs) (rsRemainder g ys)) ∧
  (∀ (g : List Byte) (m : Nat), rsRemainder g (List.replicate m 0) = List.replicate g.length 0) ∧
  (∀ (g : List Byte) (m : Nat) (d : Byte),
    rsRemainder g (List.replicate m 0 ++ [d]) = (g.map (fun a => gfMul d a)).reverse)

/-- R128: the errors of RS_REM in order; UNINIT_READ; otherwise REM is the register of R128, highest degree first, then
zeros, ZERO says whether the first s entries are all 0, and nothing else changes. -/
def Obligations.RsRemWritesRemainder : Prop :=
  RunsAs 0x12 badAbove16 (fun w => .rsRem (numA w)) ∧
  (∀ (s : State) (k : Nat), s.sizeClass? = none → exec (.rsRem k) s = .next (failed .badSize s)) ∧
  (∀ (s : State) (k : Nat) (c : SizeClass), s.sizeClass? = some c → c.b ≤ k →
    exec (.rsRem k) s = .next (failed .badBlock s)) ∧
  (∀ (s : State) (k : Nat) (c : SizeClass), s.sizeClass? = some c → k < c.b → s.genS.toNat ≠ c.s →
    exec (.rsRem k) s = .next (failed .genMismatch s)) ∧
  (∀ (s : State) (k : Nat) (c : SizeClass), s.sizeClass? = some c → k < c.b → s.genS.toNat = c.s →
    (∃ j ∈ blockIndices c k, s.cwAt j = none) → exec (.rsRem k) s = .fault .uninitRead) ∧
  (∀ (s : State) (k : Nat) (c : SizeClass) (cs : List Byte), s.sizeClass? = some c → k < c.b → s.genS.toNat = c.s →
    Memory.readAll s.cw (blockIndices c k) = some cs →
    ∃ (r : Vector Byte 68) (z : Bool),
      exec (.rsRem k) s = .next { s with rem := r, zero := z, done := true, errCode := .none, pending := none } ∧
      (∀ i, i < c.s → r.toList[i]? = (checkRegister (s.genCoeffs c.s) cs)[c.s - 1 - i]?) ∧
      (∀ i, c.s ≤ i → i < 68 → r.toList[i]? = some 0) ∧
      (z = true ↔ ∀ i, i < c.s → r.toList[i]? = some 0))

/-- R128 (REM = C_k(x) mod g_s(x)): the register of RS_REM is division: q*g + r = c(x) with r of s coefficients. Both
sides are padded with zero coefficients at the top. Its corner cases: for a generator with a non-zero constant term,
changing any one codeword of a sequence with remainder 0 gives a remainder that is not 0; the data codewords followed by s
zeros give the encoder's remainder; and the example after CW[0] <- 84. -/
def Obligations.CheckRegisterIsDivisionRemainder : Prop :=
  (∀ (g cs : List Byte), ∃ q : List Byte,
    q.length = cs.length ∧ (checkRegister g cs).length = g.length ∧
    addLow (mulLow q (g ++ [1])) (checkRegister g cs) = cs.reverse ++ List.replicate g.length 0) ∧
  (∀ (g cs : List Byte) (a v : Byte) (i : Nat), g.head? = some a → a ≠ 0 → i < cs.length → cs[i]? ≠ some v →
    checkRegister g cs = List.replicate g.length 0 →
    checkRegister g (cs.set i v) ≠ List.replicate g.length 0) ∧
  (∀ (g ds : List Byte), checkRegister g (ds ++ List.replicate g.length 0) = encodeRegister g ds) ∧
  (checkRegister [23, 68, 144, 134, 240, 92, 254] [84, 70, 84, 85, 129, 125, 231, 139, 243, 125, 208, 115]).reverse =
    [252, 91, 6, 97, 202, 3, 100]

/-- R129: the errors of RS_SYN in order; UNINIT_READ; otherwise SYN[j-1] = C_k(alpha^j) for 1 <= j <= s, then zeros,
ZERO says whether the first s entries are all 0, and nothing else changes. -/
def Obligations.RsSynWritesSyndromes : Prop :=
  RunsAs 0x13 badAbove16 (fun w => .rsSyn (numA w)) ∧
  (∀ (s : State) (k : Nat), s.sizeClass? = none → exec (.rsSyn k) s = .next (failed .badSize s)) ∧
  (∀ (s : State) (k : Nat) (c : SizeClass), s.sizeClass? = some c → c.b ≤ k →
    exec (.rsSyn k) s = .next (failed .badBlock s)) ∧
  (∀ (s : State) (k : Nat) (c : SizeClass), s.sizeClass? = some c → k < c.b → s.genS.toNat ≠ c.s →
    exec (.rsSyn k) s = .next (failed .genMismatch s)) ∧
  (∀ (s : State) (k : Nat) (c : SizeClass), s.sizeClass? = some c → k < c.b → s.genS.toNat = c.s →
    (∃ j ∈ blockIndices c k, s.cwAt j = none) → exec (.rsSyn k) s = .fault .uninitRead) ∧
  (∀ (s : State) (k : Nat) (c : SizeClass) (cs : List Byte), s.sizeClass? = some c → k < c.b → s.genS.toNat = c.s →
    Memory.readAll s.cw (blockIndices c k) = some cs →
    ∃ (y : Vector Byte 68) (z : Bool),
      exec (.rsSyn k) s = .next { s with syn := y, zero := z, done := true, errCode := .none, pending := none } ∧
      (∀ j, 1 ≤ j → j ≤ c.s → y.toList[j - 1]? = some (evalSeq j cs)) ∧
      (∀ i, c.s ≤ i → i < 68 → y.toList[i]? = some 0) ∧
      (z = true ↔ ∀ i, i < c.s → y.toList[i]? = some 0)) ∧
  (List.range 7).map (fun j => evalSeq (j + 1) [84, 70, 84, 85, 129, 125, 231, 139, 243, 125, 208, 115]) =
    [69, 155, 186, 26, 28, 175, 130]

/-- R130, first part: after RS_ENC with the generator of RS_GEN, RS_REM and RS_SYN complete with ZERO = 1 on every
block. -/
def Obligations.EncodedBlocksCheckToZero : Prop :=
  ∀ (s t : State) (c : SizeClass), s.sizeClass? = some c → s.genS.toNat = c.s → s.gen = generatorArray c.s →
    CwHeld s c.d → exec .rsEnc s = .next t →
    ∀ k, k < c.b →
      (∃ u, exec (.rsRem k) t = .next u ∧ u.zero = true ∧ u.errCode = .none) ∧
      (∃ u, exec (.rsSyn k) t = .next u ∧ u.zero = true ∧ u.errCode = .none)

/-- R130, second part: for any content of CW the ZERO results of RS_REM and RS_SYN agree. -/
def Obligations.RemainderAndSyndromesAgreeOnZero : Prop :=
  ∀ (s u v : State) (k : Nat), s.gen = generatorArray s.genS.toNat → exec (.rsRem k) s = .next u →
    exec (.rsSyn k) s = .next v → u.errCode = .none → v.errCode = .none ∧ u.zero = v.zero

/-- R122, R48: the blocks partition the data codewords round-robin: index i is in block i mod b and in no other, each
block lists its indices in increasing order, its length is D_k, and the unequal lengths of class 23. -/
def Obligations.BlocksPartitionTheData : Prop :=
  (∀ c ∈ sizeRom,
    (∀ i, i < c.d → ∀ k, k < c.b → (i ∈ dataIndices c k ↔ k = i % c.b)) ∧
    (∀ k, k < c.b → (dataIndices c k).Pairwise (· < ·) ∧ (∀ i ∈ dataIndices c k, i < c.d) ∧
      (dataIndices c k).length = (c.d - k + c.b - 1) / c.b ∧
      eccIndices c k = (List.range c.s).map (fun i => c.d + k + i * c.b))) ∧
  (∀ c, sizeRom[23]? = some c →
    (∀ k, k < 8 → blockLen c k = 156) ∧ blockLen c 8 = 155 ∧ blockLen c 9 = 155)

/-! ### Placement -/

/-- R152: PL_CLEAR writes every GRID cell to 0, in every state, and nothing else changes. -/
def Obligations.PlClearZeroesWholeGrid : Prop :=
  RunsAs 0x20 badAbove8 (fun _ => .plClear) ∧
  ∀ s : State, ∃ m : Memory,
    exec .plClear s = .next { s with grid := m, done := true, errCode := .none, pending := none } ∧
    (∀ x y, x < 144 → y < 144 → Memory.read m (gridKey x y) = some 0) ∧
    (∀ key, isGridKey key = false → Memory.read m key = none)

/-- R153, R151: PL_FINDER writes the value of each finder cell, on or off, whichever case of R151 gives it; every other
cell and everything else is unchanged; BAD_SIZE without a class. -/
def Obligations.PlFinderDrawsFinder : Prop :=
  RunsAs 0x21 badAbove8 (fun _ => .plFinder) ∧
  (∀ s : State, s.sizeClass? = none → exec .plFinder s = .next (failed .badSize s)) ∧
  (∀ (s : State) (c : SizeClass), s.sizeClass? = some c → ∃ m : Memory,
    exec .plFinder s = .next { s with grid := m, done := true, errCode := .none, pending := none } ∧
    (∀ x y b, x < c.w → y < c.h → FinderCase c x y b → Memory.read m (gridKey x y) = some (bitByte b)) ∧
    (∀ x y, x < 256 → ¬ (x < c.w ∧ y < c.h ∧ ∃ b, FinderCase c x y b) →
      Memory.read m (gridKey x y) = Memory.read s.grid (gridKey x y)))

/-- R168: PL_START clears MASK and FIXED, sets the walk registers and WSTATE, from any WSTATE; nothing else changes;
BAD_SIZE without a class. -/
def Obligations.PlStartBeginsWalk : Prop :=
  RunsAs 0x22 badAbove8 (fun _ => .plStart) ∧
  (∀ s : State, s.sizeClass? = none → exec .plStart s = .next (failed .badSize s)) ∧
  (∀ (s : State) (c : SizeClass), s.sizeClass? = some c → ∃ (w : Walk) (m : MaskBits),
    exec .plStart s =
      .next { s with walk := w, fixed := false, done := true, errCode := .none, pending := none } ∧
    w.mask = some m ∧ (∀ r k : Nat, r < 132 → k < 132 → maskBit m r k = false) ∧
    w.row = 4 ∧ w.col = 0 ∧ w.phase = .corner ∧ w.chr = 0 ∧ w.lastLayout = none ∧ w.lastRow = 0 ∧ w.lastCol = 0 ∧
    w.wstate = .active)

/-- R169, R163, R155: on a walk that micro-steps reach from PL_START (log 14: the states no run reaches are ruled out by
this premise), PL_STEP places exactly the codeword CW[CHR]: the 8 cells of one layout receive its bits, most
significant first, no other cell changes; the walk is done exactly after the N-th codeword. The errors: BAD_SIZE,
WALK_INACTIVE, WALK_OVER; UNINIT_READ when CW[CHR] holds no value. -/
def Obligations.PlStepPlacesOneCodeword : Prop :=
  RunsAs 0x23 badAbove8 (fun _ => .plStep) ∧
  (∀ s : State, s.sizeClass? = none → exec .plStep s = .next (failed .badSize s)) ∧
  (∀ (s : State) (c : SizeClass), s.sizeClass? = some c → s.walk.wstate = .idle →
    exec .plStep s = .next (failed .walkInactive s)) ∧
  (∀ (s : State) (c : SizeClass), s.sizeClass? = some c → s.walk.wstate = .done →
    exec .plStep s = .next (failed .walkOver s)) ∧
  (∀ (s : State) (c : SizeClass), s.sizeClass? = some c → s.walk.wstate = .active → s.WalkOk →
    s.cwAt s.walk.chr = none → exec .plStep s = .fault .uninitRead) ∧
  ∀ (s : State) (c : SizeClass) (v : Byte), s.sizeClass? = some c → s.walk.wstate = .active → s.WalkOk →
    s.cwAt s.walk.chr = some v →
    ∃ (t : State) (tag : Layout), exec .plStep s = .next t ∧
      t = { s with grid := t.grid, walk := t.walk, done := true, errCode := .none, pending := none } ∧
      t.walk.chr = s.walk.chr + 1 ∧ t.walk.lastLayout = some tag ∧
      (∀ j, j < 8 → ∃ cell, (layoutCells c tag t.walk.lastRow t.walk.lastCol)[j]? = some cell ∧
        inMatrix c cell.1 cell.2 = true ∧ Memory.read t.grid (cellKey c cell) = some (bitByte (v.getLsbD (7 - j)))) ∧
      (∀ key, (∀ cell ∈ layoutCells c tag t.walk.lastRow t.walk.lastCol, key ≠ cellKey c cell) →
        Memory.read t.grid key = Memory.read s.grid key) ∧
      (t.walk.wstate = if s.walk.chr + 1 = c.n then .done else .active)

/-- R170: with every codeword held, PL_RUN completes for every legal class: the walk is done at the END cursor of R173
with CHR = N, every data cell of the symbol holds a bit, no other cell changes (the finder among them), FIXED is the
fixup column of R173; nothing else changes. BAD_SIZE without a class; UNINIT_READ when a codeword of CW[0..N-1] holds no
value. -/
def Obligations.PlRunPlacesWholeSymbol : Prop :=
  RunsAs 0x24 badAbove8 (fun _ => .plRun) ∧
  (∀ s : State, s.sizeClass? = none → exec .plRun s = .next (failed .badSize s)) ∧
  (∀ (s : State) (c : SizeClass), s.sizeClass? = some c → ¬ CwHeld s c.n → exec .plRun s = .fault .uninitRead) ∧
  ∀ (s : State) (c : SizeClass), s.sizeClass? = some c → CwHeld s c.n →
    ∃ (t : State) (m : Memory) (fires : List (Layout × Int × Int × Nat)) (fix : Bool) (steps : Nat) (er ec : Int),
      exec .plRun s = .next t ∧ walkTable[s.sizeSel.toNat]? = some (fires, fix, steps, er, ec) ∧
      t = { s with grid := m, walk := t.walk, fixed := fix, done := true, errCode := .none, pending := none } ∧
      t.walk.wstate = .done ∧ t.walk.phase = .finish ∧ t.walk.chr = c.n ∧ t.walk.row = er ∧ t.walk.col = ec ∧
      (∀ key, isDataKey c key = true → ∃ b, Memory.read m key = some (bitByte b)) ∧
      (∀ key, isDataKey c key = false → Memory.read m key = Memory.read s.grid key)

/-- R170, R169: PL_RUN leaves the same state as PL_START, N times PL_STEP and PL_FIXUP, each completing without error. -/
def Obligations.PlRunEqualsSteppedWalk : Prop :=
  ∀ (s t : State) (c : SizeClass), s.sizeClass? = some c → exec .plRun s = .next t →
    CleanRun (.plStart :: List.replicate c.n .plStep ++ [.plFixup]) s t

/-- R156, R158 to R161: the cells of the layouts. R157: the wrap, both steps in order. R162: corner selection, by predicates
that exclude one another. R163: what a placement does to MASK, LAST_LAYOUT, LAST_ROW, LAST_COL and CHR, and where it is
UNREACHABLE. -/
def Obligations.LayoutsWrapAndPlacement : Prop :=
  (∀ (c : SizeClass) (row col : Int), let n : Int := c.nrow; let m : Int := c.ncol
    layoutCells c .nominal row col = offsets.map (fun o => wrapCell c (row + o.1) (col + o.2)) ∧
    layoutCells c .cornerA row col =
      List.zip [n - 1, n - 1, n - 1, 0, 0, 1, 2, 3] [0, 1, 2, m - 2, m - 1, m - 1, m - 1, m - 1] ∧
    layoutCells c .cornerB row col =
      List.zip [n - 3, n - 2, n - 1, 0, 0, 0, 0, 1] [0, 0, 0, m - 4, m - 3, m - 2, m - 1, m - 1] ∧
    layoutCells c .cornerC row col =
      List.zip [n - 3, n - 2, n - 1, 0, 0, 1, 2, 3] [0, 0, 0, m - 2, m - 1, m - 1, m - 1, m - 1] ∧
    layoutCells c .cornerD row col =
      List.zip [n - 1, n - 1, 0, 0, 0, 1, 1, 1] [0, m - 1, m - 3, m - 2, m - 1, m - 3, m - 2, m - 1] ∧
    (cornerLayout c row col = some .cornerA ↔ row = n ∧ col = 0) ∧
    (cornerLayout c row col = some .cornerB ↔ row = n - 2 ∧ col = 0 ∧ c.ncol % 4 ≠ 0) ∧
    (cornerLayout c row col = some .cornerC ↔ row = n - 2 ∧ col = 0 ∧ c.ncol % 8 = 4) ∧
    (cornerLayout c row col = some .cornerD ↔ row = n + 4 ∧ col = 2 ∧ c.ncol % 8 = 0)) ∧
  (∀ (c : SizeClass) (r k : Int), let a : Int := 4 - ((c.nrow + 4) % 8 : Nat); let b : Int := 4 - ((c.ncol + 4) % 8 : Nat)
    (0 ≤ r → 0 ≤ k → wrapCell c r k = (r, k)) ∧
    (r < 0 → 0 ≤ k + a → wrapCell c r k = (r + c.nrow, k + a)) ∧
    (0 ≤ r → k < 0 → wrapCell c r k = (r + b, k + c.ncol)) ∧
    (r < 0 → k + a < 0 → wrapCell c r k = (r + c.nrow + b, k + a + c.ncol))) ∧
  (∀ (c : SizeClass) (t : Layout) (w w' : Walk), c ∈ sizeRom → w.place c t = some w' →
    w'.chr = w.chr + 1 ∧ w'.lastLayout = some t ∧ w'.lastRow = w.row ∧ w'.lastCol = w.col ∧ w'.row = w.row ∧
    w'.col = w.col ∧ w'.phase = w.phase ∧ w'.wstate = w.wstate ∧
    ∃ m m', w.mask = some m ∧ w'.mask = some m' ∧ ∀ r k : Nat, r < 132 → k < 132 →
      (maskBit m' r k = true ↔ maskBit m r k = true ∨ ((r : Int), (k : Int)) ∈ layoutCells c t w.row w.col)) ∧
  (∀ (c : SizeClass) (t : Layout) (w : Walk) (m : MaskBits), w.mask = some m →
    (c.n ≤ w.chr ∨ ∃ cell ∈ layoutCells c t w.row w.col, maskBit m cell.1 cell.2 = true) → w.place c t = none)

/-- R164, R165, R166: a micro-step places the layout its phase selects and then moves; with nothing to place it only moves.
Stated for the control part, which decides which cells a codeword goes to. R169: a completed PL_STEP on an active walk that
micro-steps reach from PL_START is the shortest run of one or more micro-steps to CHR + 1, extended to END after the N-th
codeword, and WSTATE is DONE exactly at END. R170: a completed PL_RUN is micro-steps from PL_START's walk to END, then WSTATE
DONE and the fixup's MASK and FIXED. -/
def Obligations.MicroStepsFollowPhases : Prop :=
  (∀ (c : SizeClass) (w : Walk), w.phase = .corner →
    (cornerLayout c w.row w.col = none → w.microStep c = some { w with phase := .up }) ∧
    (∀ t, cornerLayout c w.row w.col = some t →
      w.microStep c = (w.place c t).map (fun w' => { w' with phase := .up }))) ∧
  (∀ (c : SizeClass) (w : Walk) (m : MaskBits), w.phase = .up → w.mask = some m →
    (¬ CursorFree c m w → w.microStep c = some (movedUp c w)) ∧
    (CursorFree c m w → w.microStep c = (w.place c .nominal).map (movedUp c))) ∧
  (∀ (c : SizeClass) (w : Walk) (m : MaskBits), w.phase = .down → w.mask = some m →
    (¬ CursorFree c m w → w.microStep c = some (movedDown c w)) ∧
    (CursorFree c m w → w.microStep c = (w.place c .nominal).map (movedDown c))) ∧
  (∀ (s t : State) (c : SizeClass), s.sizeClass? = some c → s.walk.wstate = .active → s.WalkOk →
    exec .plStep s = .next t → ∃ (k : Nat) (w : Walk), 0 < k ∧ microSteps c k s.walk = some w ∧
      w.chr = s.walk.chr + 1 ∧ (w.chr = c.n → w.phase = .finish) ∧
      t.walk = { w with wstate := if w.phase = .finish then .done else .active } ∧
      ∀ j, 0 < j → j < k → ∃ w', microSteps c j s.walk = some w' ∧ w'.phase ≠ .finish ∧
        (w'.chr = s.walk.chr ∨ w'.chr = c.n)) ∧
  (∀ (s t : State) (c : SizeClass), s.sizeClass? = some c → exec .plRun s = .next t →
    ∃ (k : Nat) (w : Walk) (m : MaskBits), microSteps c k Walk.start = some w ∧ w.phase = .finish ∧ w.mask = some m ∧
      ((t.fixed = false ∧ t.walk = { w with wstate := .done }) ∨
       (t.fixed = true ∧ t.walk = { w with wstate := .done, mask := some (fixupMask c m) })))

/-- R172, R171: the errors of PL_FIXUP; on a finished walk it writes the four cells of the pattern through the gap
translation, sets their MASK bits and FIXED when MASK[nrow-1, ncol-1] = 0, and otherwise only clears FIXED. On a walk reached from
PL_START, the classes other than 1, 3, 5 and 7 only clear FIXED. -/
def Obligations.PlFixupWritesCornerPattern : Prop :=
  RunsAs 0x25 badAbove8 (fun _ => .plFixup) ∧
  (∀ s : State, s.sizeClass? = none → exec .plFixup s = .next (failed .badSize s)) ∧
  (∀ (s : State) (c : SizeClass), s.sizeClass? = some c → s.walk.wstate ≠ .done →
    exec .plFixup s = .next (failed .walkNotDone s)) ∧
  (∀ (s : State) (c : SizeClass) (m : MaskBits), s.sizeClass? = some c → s.walk.wstate = .done →
    s.walk.mask = some m → maskBit m (c.nrow - 1) (c.ncol - 1) = true →
    exec .plFixup s = .next { s with fixed := false, done := true, errCode := .none, pending := none }) ∧
  (∀ (s : State) (c : SizeClass) (m : MaskBits), s.sizeClass? = some c → s.walk.wstate = .done →
    s.walk.mask = some m → maskBit m (c.nrow - 1) (c.ncol - 1) = false →
    ∃ (g : Memory) (m' : MaskBits),
      exec .plFixup s =
        .next { s with grid := g, walk := { s.walk with mask := some m' }, fixed := true, done := true,
                       errCode := .none, pending := none } ∧
      Memory.read g (gridKey (moduleX c (c.ncol - 1)) (moduleY c (c.nrow - 1))) = some 1 ∧
      Memory.read g (gridKey (moduleX c (c.ncol - 2)) (moduleY c (c.nrow - 2))) = some 1 ∧
      Memory.read g (gridKey (moduleX c (c.ncol - 2)) (moduleY c (c.nrow - 1))) = some 0 ∧
      Memory.read g (gridKey (moduleX c (c.ncol - 1)) (moduleY c (c.nrow - 2))) = some 0 ∧
      (∀ key, (∀ r k, c.nrow - 2 ≤ r → r < c.nrow → c.ncol - 2 ≤ k → k < c.ncol →
          key ≠ gridKey (moduleX c k) (moduleY c r)) → Memory.read g key = Memory.read s.grid key) ∧
      (∀ r k : Nat, r < 132 → k < 132 → (maskBit m' r k = true ↔
        maskBit m r k = true ∨ (c.nrow - 2 ≤ r ∧ r < c.nrow ∧ c.ncol - 2 ≤ k ∧ k < c.ncol)))) ∧
  (∀ (s : State) (c : SizeClass), s.sizeClass? = some c → s.walk.wstate = .done → s.WalkOk →
    s.sizeSel ≠ 1 → s.sizeSel ≠ 3 → s.sizeSel ≠ 5 → s.sizeSel ≠ 7 →
    exec .plFixup s = .next { s with fixed := false, done := true, errCode := .none, pending := none })

/-- R173: for every class the walk ends after the number of micro-steps, at the END cursor, with the corner layouts and
the fixup of the table; it has not ended before, and CHR = N at the end. -/
def Obligations.WalkDataPerClass : Prop :=
  ∀ (idx : Nat) (c : SizeClass), sizeRom[idx]? = some c →
    ∃ (fires : List (Layout × Int × Int × Nat)) (fix : Bool) (steps : Nat) (er ec : Int) (w : Walk) (m : MaskBits),
      walkTable[idx]? = some (fires, fix, steps, er, ec) ∧ walkAfter c steps = some w ∧ w.phase = .finish ∧
      w.chr = c.n ∧ w.row = er ∧ w.col = ec ∧ w.mask = some m ∧ maskBit m (c.nrow - 1) (c.ncol - 1) = !fix ∧
      cornerFirings c steps = fires ∧
      (∀ n, n < steps → ∃ w', walkAfter c n = some w' ∧ w'.phase ≠ .finish)

/-- R167 (a), (c), (d), (e), (g): along the walk of every class no micro-step violates the rule, each places at most one
codeword, ROW and COL stay in range, and at END exactly the four corner cells are unassigned, and only when nrow*ncol
mod 8 = 4. Part (b) is WalkDataPerClass; part (f), the cursor inside a micro-step, is left out. -/
def Obligations.WalkPropertiesOfEveryClass : Prop :=
  ∀ (c : SizeClass), c ∈ sizeRom → ∀ (n : Nat) (w : Walk), walkAfter c n = some w →
    (-1 ≤ w.row ∧ w.row ≤ (c.nrow : Int) + 8 ∧ 0 ≤ w.col ∧ w.col ≤ (c.ncol : Int) + 3) ∧
    (w.phase ≠ .finish → ∃ w', w.microStep c = some w' ∧ (w'.chr = w.chr ∨ w'.chr = w.chr + 1)) ∧
    (w.phase = .finish → w.chr = c.n ∧ ∃ m, w.mask = some m ∧ ∀ r k : Nat, r < c.nrow → k < c.ncol →
      (maskBit m r k = false ↔ c.nrow * c.ncol % 8 = 4 ∧ c.nrow - 2 ≤ r ∧ c.ncol - 2 ≤ k))

/-- R154: the gap translation is a bijection from the mapping matrix onto the data cells of the symbol. -/
def Obligations.GapTranslationIsBijection : Prop :=
  ∀ c ∈ sizeRom,
    (∀ r k, r < c.nrow → k < c.ncol →
      moduleX c k = k + 2 * (k / c.rw) + 1 ∧ moduleY c r = r + 2 * (r / c.rh) + 1 ∧
      isDataKey c (gridKey (moduleX c k) (moduleY c r)) = true) ∧
    (∀ r k r' k', r < c.nrow → k < c.ncol → r' < c.nrow → k' < c.ncol →
      gridKey (moduleX c k) (moduleY c r) = gridKey (moduleX c k') (moduleY c r') → r = r' ∧ k = k') ∧
    (∀ key, isDataKey c key = true → ∃ r k, r < c.nrow ∧ k < c.ncol ∧ key = gridKey (moduleX c k) (moduleY c r))

/-- R248: PL_FINDER and PL_RUN in either order leave the same state. -/
def Obligations.FinderAndWalkCommute : Prop :=
  ∀ (s t : State), Memory.wf s.grid = true →
    (CleanRun [.plFinder, .plRun] s t ↔ CleanRun [.plRun, .plFinder] s t)

/-! ### SYMBOL -/

/-- R200, R201: SYMBOL completes for every legal class with CW[0..D-1] held, and leaves the same state as its five
parts, each completing without error; BAD_SIZE without a class; UNINIT_READ when a data codeword holds no value. -/
def Obligations.SymbolEqualsItsParts : Prop :=
  RunsAs 0x30 badAbove8 (fun _ => .symbol) ∧
  (∀ s : State, s.sizeClass? = none → exec .symbol s = .next (failed .badSize s)) ∧
  (∀ (s : State) (c : SizeClass), s.sizeClass? = some c → ¬ CwHeld s c.d → exec .symbol s = .fault .uninitRead) ∧
  (∀ (s : State) (c : SizeClass), s.sizeClass? = some c → CwHeld s c.d →
    ∃ t, exec .symbol s = .next t ∧ t.errCode = .none ∧ t.done = true ∧ t.err = s.err ∧ t.zero = s.zero ∧
      t.result = s.result ∧ t.genS.toNat = c.s ∧ t.walk.wstate = .done ∧
      CleanRun [.rsGen c.s, .rsEnc, .plClear, .plFinder, .plRun] s t)

/-- R202: the symbol is a function of SIZE and CW[0..D-1] alone. -/
def Obligations.SymbolDependsOnClassAndDataOnly : Prop :=
  ∀ (s s' t t' : State) (c : SizeClass), s.sizeClass? = some c → s'.sizeSel = s.sizeSel →
    (∀ i, i < c.d → s'.cwAt i = s.cwAt i) → exec .symbol s = .next t → exec .symbol s' = .next t' →
    t'.grid = t.grid ∧ t'.walk = t.walk ∧ t'.fixed = t.fixed ∧ t'.gen = t.gen ∧
    ∀ i, i < c.n → t'.cwAt i = t.cwAt i

/-! ### Errors and frames of all commands -/

/-- R213: a command that completes with an error changes only DONE, ERR and ERRCODE (and PENDING); one that succeeds
keeps ERR. The engine step on a pending word does the same, an illegal word included. -/
def Obligations.ErrorsArePrecise : Prop :=
  (∀ (i : Instr) (s t : State), exec i s = .next t →
    (t.errCode ≠ .none → t = failed t.errCode s) ∧ (t.errCode = .none → t.err = s.err ∧ t.done = true)) ∧
  (∀ (s t : State), s.pending ≠ none → engineStep s = .next t →
    (t.errCode ≠ .none → t = failed t.errCode s) ∧ (t.errCode = .none → t.err = s.err ∧ t.done = true))

/-- R212: one command reports one error, the first in the order of the rule, and none when no condition holds. An illegal
word reports ILLEGAL_OP before any other check; a refused access and a dropped write never change ERRCODE. R211: the
number of each code, and which commands can record it. -/
def Obligations.FirstErrorIsReported : Prop :=
  (∀ (i : Instr) (s t : State), exec i s = .next t → t.errCode = firstError s i) ∧
  (∀ (i : Instr) (s : State), firstError s i ≠ .none → exec i s = .next (failed (firstError s i) s)) ∧
  (∀ (s : State) (w : Word) (e : Illegal), s.pending = some w → decode w = .error e →
    engineStep s = .next (failed .illegalOp s)) ∧
  ErrCode.toBits .none = 0 ∧ ErrCode.toBits .illegalOp = 1 ∧
  (∀ row ∈ raisedBy, (ErrCode.toBits row.2.1).toNat = row.1) ∧
  (∀ (i : Instr) (s t : State), exec i s = .next t →
    t.errCode = .none ∨ ∃ row ∈ raisedBy, row.2.1 = t.errCode ∧ mnemonic i ∈ row.2.2) ∧
  (∀ (s : State) (tr : Transaction), NotSoftReset tr → (transact tr s).errCode = s.errCode)

/-- R87 with R27, R29, R41 and R38: no command writes outside its write set. CW and GRID are compared cell by cell,
through the model's read of one cell. PL_START's part (MASK, walk registers, FIXED) follows R168 (log 11, log 12). -/
def Obligations.CommandsKeepToTheirWriteSets : Prop :=
  ∀ (i : Instr) (s t : State), exec i s = .next t →
    (∀ key, writesCw s.sizeClass? i key = false → Memory.read t.cw key = Memory.read s.cw key) ∧
    (∀ key, writesGrid s.sizeClass? i key = false → Memory.read t.grid key = Memory.read s.grid key) ∧
    (writesResult i = false → t.result = s.result) ∧
    (writesGen i = false → t.gen = s.gen ∧ t.genS = s.genS) ∧
    ((∀ k, i ≠ .rsRem k) → t.rem = s.rem) ∧ ((∀ k, i ≠ .rsSyn k) → t.syn = s.syn) ∧
    ((∀ k, i ≠ .rsRem k ∧ i ≠ .rsSyn k) → t.zero = s.zero) ∧
    (writesWalk i = false → t.walk = s.walk) ∧ (writesFixed i = false → t.fixed = s.fixed) ∧
    t.ovr = s.ovr ∧ t.busErr = s.busErr ∧ t.ie = s.ie ∧ t.cmd = s.cmd ∧ t.sizeSel = s.sizeSel ∧ t.pending = none ∧
    t.response = s.response ∧ t.draws = s.draws ∧ t.program = s.program ∧ t.hostNext = s.hostNext ∧ t.turns = s.turns

/-- R80, R6: while a command is pending, a host transaction other than a soft reset changes nothing the command reads or
writes, so the command has the same outcome before and after it. -/
def Obligations.CommandSeesStateAtIssue : Prop :=
  (∀ (s : State) (tr : Transaction), s.busy = true → NotSoftReset tr → SameBlock (transact tr s) s) ∧
  (∀ (s s' t : State), SameBlock s' s → engineStep s = .next t → ∃ t', engineStep s' = .next t' ∧ SameBlock t' t ∧
    t'.errCode = (if s.pending.isSome then t.errCode else s'.errCode)) ∧
  (∀ (s s' : State) (f : Fault), SameBlock s' s → engineStep s = .fault f → engineStep s' = .fault f)

/-! ### Encoding and the step -/

/-- R90, R91, R92: every well-formed command's word decodes to it, with every operand; and a word that decodes is the
encoding of what it decodes to, so that no reserved bit is ignored (R93). -/
def Obligations.DecodeAndEncodeAgree : Prop :=
  (∀ i : Instr, i.wf = true → decode (encode i) = .ok i) ∧
  (∀ (w : Word) (i : Instr), decode w = .ok i → i.wf = true ∧ encode i = w)

/-- R92, R94: the decoder accepts exactly the words that select a row of the opcode map, as that row's command with
A = w[15:8] and B = w[23:16], and no word selects two rows. -/
def Obligations.DecodeFollowsOpcodeMap : Prop :=
  (∀ w : Word, (∃ i, decode w = .ok i) ↔ ∃ row ∈ opcodeMap, row.selects w = true) ∧
  (∀ (w : Word) (i : Instr), decode w = .ok i → ∀ row ∈ opcodeMap, row.selects w = true → row.mnemonic = mnemonic i) ∧
  (∀ w : Word, ∀ r ∈ opcodeMap, ∀ r' ∈ opcodeMap, r.selects w = true → r'.selects w = true → r = r') ∧
  (∀ (w : Word) (i : Instr), decode w = .ok i →
    opcode i = w.extractLsb' 0 8 ∧ operandA i = w.extractLsb' 8 8 ∧ operandB i = w.extractLsb' 16 8)

/-- Words of the spec's encoding table and examples (30_encoding.md, 95_test_vectors.md L2.1), read right; and the
assembler of R95 emits OP + 256*a + 65536*b and rejects an operand outside 0..255. -/
def Obligations.SpecWordsDecodeAndAssemble : Prop :=
  decode 0x00000000 = .ok .nop ∧ decode 0x00CA5301 = .ok (.gfAdd 0x53 0xCA) ∧
  decode 0x00022D03 = .ok (.gfDiv 0x2D 0x02) ∧ decode 0x00000710 = .ok (.rsGen 7) ∧
  decode 0x00000113 = .ok (.rsSyn 1) ∧ decode 0x00000024 = .ok .plRun ∧ decode 0x00000030 = .ok .symbol ∧
  decode 0x00000006 = .error .unknownOp ∧ decode 0x01000001 = .error .reservedBit ∧
  decode 0x00000100 = .error .reservedBit ∧ decode 0x00010004 = .error .reservedBit ∧
  (∀ i : Instr, (encode i).toNat = (opcode i).toNat + 256 * (operandA i).toNat + 65536 * (operandB i).toNat) ∧
  (∀ (name : String) (ops : List Nat), (∃ n ∈ ops, 256 ≤ n) → assemble name ops = none) ∧
  assemble "GF_MUL" [0x53, 0xCA] = some 0x00CA5302 ∧ assemble "RS_GEN" [7] = some 0x00000710 ∧
  assemble "RS_SYN" [1] = some 0x00000113

/-- R210, R93: when it is the engine's turn and PENDING holds a word, the step performs the decoded command on the state
with that turn used up, or completes with ILLEGAL_OP; with PENDING empty nothing changes. With no turn listed a pending
command is the engine's to take (the model's choice, log 1); otherwise the host moves. That an engine turn with PENDING empty
changes nothing else is log 17, and that `withFetchWord` stands for a CMD write and runs its word is log 3: both the
model's. -/
def Obligations.StepPerformsPendingCommand : Prop :=
  (∀ (s : State) (w : Word) (i : Instr), s.nextTurn = .engine → s.pending = some w → decode w = .ok i →
    step s = exec i { s with turns := s.turns.tail }) ∧
  (∀ (s : State) (w : Word) (e : Illegal), s.nextTurn = .engine → s.pending = some w → decode w = .error e →
    step s = .next (failed .illegalOp { s with turns := s.turns.tail })) ∧
  (∀ s : State, s.nextTurn = .engine → s.pending = none → step s = .next { s with turns := s.turns.tail }) ∧
  (∀ s : State, s.turns = [] → s.pending ≠ none → s.nextTurn = .engine) ∧
  (∀ s : State, s.turns = [] → s.pending = none → s.nextTurn = .host) ∧
  (∀ (s : State) (w : Nat) (i : Instr), w < 2 ^ 32 → decode (BitVec.ofNat 32 w) = .ok i →
    step (s.withFetchWord 32 w) =
      exec i { s with pending := some (BitVec.ofNat 32 w), cmd := BitVec.ofNat 32 w })

/-! ### The host interface -/

/-- R73: the map lists exactly these addresses, each for one location, and a write to a read-only location is ignored,
without BUSERR (that the bus answers it without error is log 13). -/
def Obligations.AddressMapIsExact : Prop :=
  (∀ (a : Nat) (l : Location), locate a = some l ↔ Listed l ∧ addressOf l = a) ∧
  addressOf (.grid 143 143) = 0x43E3C ∧ (∀ l, Listed l → addressOf l ≤ 0x43E3C) ∧
  (∀ (s : State) (addr : Addr) (v : Word) (l : Location), accept addr .word = some l → ¬ Writable l →
    hostWrite addr .word v s = { s with response := some (.writeDone false) })

/-- R71, R72: an access that is not 32 bits wide, misaligned or unmapped is refused: a read returns 0 with an error
response, a write changes nothing but answers with one, and both set BUSERR. -/
def Obligations.RefusedAccessSetsBusErr : Prop :=
  ∀ (s : State) (addr : Addr) (width : Width) (v : Word),
    width ≠ .word ∨ addr.toNat % 4 ≠ 0 ∨ (∀ l, Listed l → addressOf l ≠ addr.toNat) →
    hostRead addr width s = { s with busErr := true, response := some (.readDone 0 true) } ∧
    hostWrite addr width v s = { s with busErr := true, response := some (.writeDone true) }

/-- R81: a read while BUSY of a location the rule names answers with a free value whose reserved bits are 0; the other
registers answer with their defined values. The draw counter is the model's own (log 4). R82, R214: a write to CMD, SIZE,
CW or GRID while BUSY changes nothing but OVR; that the bus answers it without error is the model's reading (log 13). -/
def Obligations.BusyReadsAreDrawsAndWritesDropped : Prop :=
  (∀ (s : State) (addr : Addr) (l : Location), s.busy = true → accept addr .word = some l →
    (Drawn l →
      hostRead addr .word s =
        { s with response := some (.readDone (Config.draw s.draws &&& ~~~ reservedBits l) false),
                 draws := s.draws + 1 }) ∧
    (¬ Drawn l → ∃ v, s.held l = some v ∧
      hostRead addr .word s = { s with response := some (.readDone v false) })) ∧
  (∀ (s : State) (addr : Addr) (v : Word) (l : Location), s.busy = true → accept addr .word = some l →
    (l = .cmd ∨ l = .size ∨ (∃ i, l = .cw i) ∨ ∃ x y, l = .grid x y) →
    hostWrite addr .word v s = { s with ovr := true, response := some (.writeDone false) })

/-- R33, R86: no read has a side effect on the block: only the answer, the draw counter and, for a refused access, BUSERR
change; so a second read of a location that holds a value answers the same. -/
def Obligations.ReadsHaveNoSideEffect : Prop :=
  (∀ (s : State) (addr : Addr) (width : Width), ∃ (e : Bool) (r : Option BusResponse) (n : Nat),
    hostRead addr width s = { s with busErr := e, response := r, draws := n } ∧
    (e = s.busErr ∨ accept addr width = none)) ∧
  (∀ (s : State) (addr : Addr) (l : Location) (v : Word), accept addr .word = some l → s.busy = false →
    s.held l = some v →
    (hostRead addr .word s).response = some (.readDone v false) ∧
    (hostRead addr .word (hostRead addr .word s)).response = some (.readDone v false))

/-- R23: the bits of STATUS and what each shows; WALK_ACTIVE and WALK_DONE are never both 1. R24: a write of v to STATUS
clears the W1C bits 1 to 4 that are set in v and leaves every other bit, BUSY or not. -/
def Obligations.StatusBitsAndWriteOneToClear : Prop :=
  (∀ (s : State) (v : Word),
    (hostWrite 0x00004 .word v s).statusWord = s.statusWord &&& ~~~(v &&& 0x1E#32) ∧
    ∃ d e o b, hostWrite 0x00004 .word v s =
      { s with done := d, err := e, ovr := o, busErr := b, response := some (.writeDone false) }) ∧
  ∀ s : State,
    s.statusWord.getLsbD 0 = s.pending.isSome ∧ s.statusWord.getLsbD 1 = s.done ∧ s.statusWord.getLsbD 2 = s.err ∧
    s.statusWord.getLsbD 3 = s.ovr ∧ s.statusWord.getLsbD 4 = s.busErr ∧ s.statusWord.getLsbD 5 = s.zero ∧
    s.statusWord.getLsbD 6 = decide (s.genS ≠ 0) ∧ s.statusWord.getLsbD 7 = decide (s.walk.wstate = .active) ∧
    s.statusWord.getLsbD 8 = decide (s.walk.wstate = .done) ∧ s.statusWord.getLsbD 9 = s.fixed ∧
    s.statusWord.extractLsb' 10 2 = 0 ∧ s.statusWord.extractLsb' 12 4 = s.errCode.toBits ∧
    s.statusWord.extractLsb' 16 16 = 0 ∧
    ¬ (s.statusWord.getLsbD 7 = true ∧ s.statusWord.getLsbD 8 = true)

/-- R25: a write of w to CMD while BUSY = 0 sets PENDING and CMD to w; while BUSY = 1 it is dropped with OVR. CMD reads
the last accepted word, and 0 after reset. That the bus answers the dropped write without error is the model's reading
(log 13). -/
def Obligations.CmdWriteIssues : Prop :=
  (∀ (s : State) (w : Word), s.busy = false →
    hostWrite 0x0000C .word w s =
      { s with pending := some w, cmd := w, response := some (.writeDone false) } ∧
    (hostWrite 0x0000C .word w s).busy = true ∧
    (hostRead 0x0000C .word (hostWrite 0x0000C .word w s)).response = some (.readDone w false)) ∧
  (∀ (s : State) (w : Word), s.busy = true →
    hostWrite 0x0000C .word w s = { s with ovr := true, response := some (.writeDone false) }) ∧
  State.reset.held .cmd = some 0

/-- R28, R247 (b): a SIZE write while BUSY = 0 stores bits [4:0] and ends any walk; a PL_STEP after it then fails with
WALK_INACTIVE; values 30 and 31 are stored and give no class. While BUSY it is dropped with OVR; that the bus answers the
dropped write without error is the model's reading (log 13). -/
def Obligations.SizeWriteEndsWalk : Prop :=
  (∀ (s : State) (v : Word), s.busy = false →
    hostWrite 0x00014 .word v s =
      { s with sizeSel := v.extractLsb' 0 5, walk := { s.walk with wstate := .idle, phase := .corner },
               response := some (.writeDone false) }) ∧
  (∀ (s : State) (v : Word), s.busy = true →
    hostWrite 0x00014 .word v s = { s with ovr := true, response := some (.writeDone false) }) ∧
  (∀ (s : State) (v : Word), s.busy = false → (v.extractLsb' 0 5).toNat < 30 →
    exec .plStep (hostWrite 0x00014 .word v s) =
      .next (failed .walkInactive (hostWrite 0x00014 .word v s))) ∧
  (∀ s : State, s.sizeClass? = none ↔ 30 ≤ s.sizeSel.toNat)

/-- R74, R75: while BUSY = 0 a CW word holds bits [7:0] of what is written to it and a GRID word bit [0]; no other cell of
the window changes, and nothing else but the answer. -/
def Obligations.DataWindowsHoldWhatIsWritten : Prop :=
  (∀ (s : State) (i : Nat) (v : Word), i < 2178 → s.busy = false → ∃ m : Memory,
    hostWrite (BitVec.ofNat 20 (0x04000 + 4 * i)) .word v s =
      { s with cw := m, response := some (.writeDone false) } ∧
    (∀ j, Memory.read m j = if j = i then some (v.extractLsb' 0 8) else Memory.read s.cw j) ∧
    (hostRead (BitVec.ofNat 20 (0x04000 + 4 * i)) .word
        (hostWrite (BitVec.ofNat 20 (0x04000 + 4 * i)) .word v s)).response
      = some (.readDone (v &&& 0xFF#32) false)) ∧
  (∀ (s : State) (x y : Nat) (v : Word), x < 144 → y < 144 → s.busy = false → ∃ m : Memory,
    hostWrite (BitVec.ofNat 20 (0x20000 + 4 * (256 * y + x))) .word v s =
      { s with grid := m, response := some (.writeDone false) } ∧
    (∀ x' y', x' < 144 → y' < 144 → Memory.read m (gridKey x' y') =
      if x' = x ∧ y' = y then some ((v &&& 1#32).extractLsb' 0 8) else Memory.read s.grid (gridKey x' y')) ∧
    (hostRead (BitVec.ofNat 20 (0x20000 + 4 * (256 * y + x))) .word
        (hostWrite (BitVec.ofNat 20 (0x20000 + 4 * (256 * y + x))) .word v s)).response
      = some (.readDone (v &&& 1#32) false))

/-- R26, R240, R242: CTRL. Without SRST a write sets IE alone. With SRST every register and hidden bit takes its reset
value and PENDING empties; an idle block keeps CW, GRID and MASK; a pending command's CW and GRID write set holds no
value afterwards, and the other cells keep theirs. IE = 0 after SRST whatever bit 0 says (log 10); a pending command's
MASK follows log 8. A pending illegal word takes no cell away, and a pending command takes its whole write set away even where
it would fail, without a class the part its set has then (log 9). The pin reset gives the reset state with no memory holding a value; the host's own part stays
(log 18). -/
def Obligations.CtrlWriteAndSoftReset : Prop :=
  (∀ (s : State) (v : Word), v.getLsbD 1 = false →
    hostWrite 0x00008 .word v s = { s with ie := v.getLsbD 0, response := some (.writeDone false) }) ∧
  (∀ (s : State) (v : Word), v.getLsbD 1 = true → ∃ (cw' grid' : Memory) (mk : Option MaskBits),
    hostWrite 0x00008 .word v s =
      { State.reset with
        cw := cw', grid := grid', walk := { Walk.reset with mask := mk }, response := some (.writeDone false),
        draws := s.draws, program := s.program, hostNext := s.hostNext, turns := s.turns } ∧
    (s.pendingInstr = none → cw' = s.cw ∧ grid' = s.grid ∧ mk = s.walk.mask) ∧
    (∀ i, s.pendingInstr = some i → ∀ key,
      Memory.read cw' key = (if writesCw s.sizeClass? i key then none else Memory.read s.cw key) ∧
      Memory.read grid' key = (if writesGrid s.sizeClass? i key then none else Memory.read s.grid key))) ∧
  (∀ s : State, s.ctrlWord.getLsbD 0 = s.ie ∧ s.ctrlWord.extractLsb' 1 31 = 0) ∧
  (∀ s : State, s.nextTurn = .pinReset → step s =
    .next { State.reset with
      draws := s.draws, program := s.program, hostNext := s.hostNext, turns := s.turns.tail })

/-- R241: the values read after pin reset, and the memories without a value. -/
def Obligations.ResetValues : Prop :=
  State.reset.held .id = some 0x444D5458 ∧ State.reset.held .status = some 0 ∧ State.reset.held .ctrl = some 0 ∧
  State.reset.held .cmd = some 0 ∧ State.reset.held .result = some 0 ∧ State.reset.held .size = some 0 ∧
  State.reset.held (.geom 0) = some 0x08080A0A ∧ State.reset.held (.geom 1) = some 0x01110808 ∧
  State.reset.held (.geom 2) = some 0x00050003 ∧ State.reset.held (.geom 3) = some 0x00050008 ∧
  State.reset.held .genS = some 0 ∧ State.reset.held .plCur = some 0 ∧ State.reset.held .plInfo = some 0 ∧
  State.reset.held .plLast = some 0 ∧
  (∀ k, k < 69 → State.reset.held (.gen k) = some 0) ∧
  (∀ k, k < 68 → State.reset.held (.rem k) = some 0 ∧ State.reset.held (.syn k) = some 0) ∧
  State.reset.walk.wstate = .idle ∧ State.reset.walk.phase = .corner ∧ State.reset.walk.row = 0 ∧
  State.reset.walk.col = 0 ∧ State.reset.walk.chr = 0 ∧ State.reset.walk.lastLayout = none ∧
  State.reset.walk.lastRow = 0 ∧ State.reset.walk.lastCol = 0 ∧ State.reset.walk.mask = none ∧
  State.reset.zero = false ∧ State.reset.fixed = false ∧ State.reset.pending = none ∧ State.reset.irq = false ∧
  (∀ i, State.reset.cwAt i = none) ∧ (∀ x y, State.reset.gridAt x y = none)

/-- R50, R216: IRQ is IE AND DONE; any completion raises it when IE = 1; a W1C write of DONE or IE <- 0 clears it. -/
def Obligations.IrqIsEnabledDone : Prop :=
  (∀ s : State, s.irq = (s.ie && s.done)) ∧ State.reset.irq = false ∧
  (∀ (i : Instr) (s t : State), exec i s = .next t → s.ie = true → t.irq = true) ∧
  (∀ (s : State) (v : Word), v.getLsbD 1 = true → (hostWrite 0x00004 .word v s).irq = false) ∧
  (∀ (s : State) (v : Word), v.getLsbD 0 = false → v.getLsbD 1 = false → (hostWrite 0x00008 .word v s).irq = false)

/-- R46, R47: 30 rows, 24 square and 6 rectangular, and the identities between the columns. R31: GEOM0 to GEOM3 show the
selected row, and 0 without a class. -/
def Obligations.SizeRomRowsAndGeomRegisters : Prop :=
  (∀ (s : State) (c : SizeClass), s.sizeClass? = some c →
    (s.geom 0).toNat = c.w + 256 * c.h + 65536 * c.rw + 16777216 * c.rh ∧
    (s.geom 1).toNat = c.ncol + 256 * c.nrow + 65536 * c.rx + 1048576 * c.ry + 16777216 * c.b ∧
    (s.geom 2).toNat = c.d + 65536 * c.e ∧ (s.geom 3).toNat = c.n + 65536 * c.s) ∧
  (∀ (s : State) (k : Nat), 29 < s.sizeSel.toNat → s.geom k = 0) ∧
  sizeRom.length = 30 ∧ (sizeRom.filter (fun c => c.kind == .square)).length = 24 ∧
  (∀ c ∈ sizeRom, c.h = c.ry * (c.rh + 2) ∧ c.w = c.rx * (c.rw + 2) ∧ c.nrow = c.ry * c.rh ∧
    c.ncol = c.rx * c.rw ∧ c.e = c.b * c.s ∧ c.n = c.d + c.e ∧ c.n = c.nrow * c.ncol / 8 ∧
    (c.kind = .square ↔ c.h = c.w) ∧ 1 ≤ c.s ∧ c.s ≤ 68 ∧ c.b ≤ 10 ∧ c.n ≤ 2178 ∧ c.h ≤ 144 ∧ c.w ≤ 144)

/-- R30, R32: PL_CUR, PL_INFO and PL_LAST show the walk registers; within the ranges of R32 and R40 the signed fields and
CHR read back exactly. -/
def Obligations.WalkRegisterViews : Prop :=
  ∀ s : State, s.walk.InRange →
    (s.plCur.extractLsb' 0 16).toInt = s.walk.row ∧ (s.plCur.extractLsb' 16 16).toInt = s.walk.col ∧
    (s.plLast.extractLsb' 0 16).toInt = s.walk.lastRow ∧ (s.plLast.extractLsb' 16 16).toInt = s.walk.lastCol ∧
    (s.plInfo.extractLsb' 0 12).toNat = s.walk.chr ∧ s.plInfo.extractLsb' 12 3 = layoutCode s.walk.lastLayout ∧
    s.plInfo.getLsbD 15 = false ∧ s.plInfo.extractLsb' 16 2 = s.walk.phase.code ∧ s.plInfo.extractLsb' 18 14 = 0

/-! ### Invariants -/

/-- The invariant holds after pin reset (R241). -/
def Obligations.InvariantHoldsAtReset : Prop :=
  State.reset.Inv ∧ State.reset.walk.InRange

/-- R25, R29, R34, R37, R38, R39, R42: every step keeps the invariant: canonical memories, the loaded generator, CMD as
the copy of PENDING, and a walk reached from PL_START. -/
def Obligations.EveryStepKeepsInvariant : Prop :=
  ∀ s t : State, s.Inv → step s = .next t → t.Inv

/-- R32, R40: every step keeps the walk registers in range. -/
def Obligations.EveryStepKeepsWalkRegistersInRange : Prop :=
  ∀ s t : State, s.Inv → s.walk.InRange → step s = .next t → t.walk.InRange

/-- R220, R49: from every state that meets the invariant the only model fault is UNINIT_READ, and only while some CW byte
holds no value; no step is refused. So with CW filled every step is safe. -/
def Obligations.OnlyUninitReadCanFault : Prop :=
  (∀ (s : State) (f : Fault), s.Inv → step s = .fault f → f = .uninitRead ∧ ∃ i, i < 2178 ∧ s.cwAt i = none) ∧
  (∀ (s : State) (r : Refusal), step s ≠ .refused r) ∧
  (∀ s : State, s.Inv → CwHeld s 2178 → s.Safe)

end
end

