-- ==== Sys2Proof/Laws/Memory.lean ====
section
/-! SUPPORT. The laws of memories: read after write, the frame of a write, the canonical form, and that canonical
memories with equal reads are equal. -/

namespace Sys2Proof.Machine.Memory

variable (m : Memory)

/-! ### Reads after writes -/

@[simp] theorem read_nil (k : Nat) : read [] k = none := rfl

theorem read_write (k j : Nat) (v : Byte) : read (write m k v) j = if j = k then some v else read m j := by
  induction m with
  | nil => simp only [write, read, eq_comm (a := k)]
  | cons cell rest ih =>
    obtain ⟨a, u⟩ := cell
    by_cases hj : j = k
    · subst hj
      by_cases h1 : j < a
      · simp [write, read, h1]
      · by_cases h2 : j = a
        · simp [write, read, h2]
        · simp [write, read, h1, h2, ih, Ne.symm h2]
    · by_cases h1 : k < a
      · simp [write, read, h1, hj, Ne.symm hj]
      · by_cases h2 : k = a
        · subst h2; simp [write, read, hj, Ne.symm hj]
        · simp [write, read, h1, h2, ih, hj]

theorem read_write_same (k : Nat) (v : Byte) : read (write m k v) k = some v := by simp [read_write]

theorem read_write_other {k j : Nat} (v : Byte) (h : j ≠ k) : read (write m k v) j = read m j := by
  simp [read_write, h]

@[simp] theorem writeAll_nil : writeAll m [] = m := rfl

@[simp] theorem writeAll_cons (cell : Host.Cell) (cells : List Host.Cell) :
    writeAll m (cell :: cells) = writeAll (write m cell.1 cell.2) cells := rfl

theorem writeAll_append (xs ys : List Host.Cell) : writeAll m (xs ++ ys) = writeAll (writeAll m xs) ys := by
  simp [writeAll]

/-- The frame of a list of writes: a key that is not written reads as before. -/
theorem read_writeAll_of_not_mem (cells : List Host.Cell) (j : Nat) (h : ∀ cell ∈ cells, cell.1 ≠ j) :
    read (writeAll m cells) j = read m j := by
  induction cells generalizing m with
  | nil => rfl
  | cons cell cells ih =>
    rw [writeAll_cons, ih _ fun x hx => h x (List.mem_cons_of_mem _ hx),
      read_write_other _ _ (Ne.symm (h cell List.mem_cons_self))]

/-- A key written once in a list of writes reads as written. -/
theorem read_writeAll_of_mem (cells : List Host.Cell) (hd : (cells.map (·.1)).Nodup) {k : Nat} {v : Byte}
    (h : (k, v) ∈ cells) : read (writeAll m cells) k = some v := by
  induction cells generalizing m with
  | nil => simp at h
  | cons cell cells ih =>
    rw [List.map_cons, List.nodup_cons] at hd
    rw [writeAll_cons]
    rcases List.mem_cons.1 h with rfl | h
    · rw [read_writeAll_of_not_mem _ _ _ fun x hx e => hd.1 (List.mem_map.2 ⟨x, hx, e⟩), read_write_same]
    · exact ih _ hd.2 h

theorem read_forget (gone : Nat → Bool) (k : Nat) :
    read (forget m gone) k = if gone k then none else read m k := by
  induction m with
  | nil => simp [forget]
  | cons cell rest ih =>
    obtain ⟨a, u⟩ := cell
    simp only [forget, List.filter_cons] at ih ⊢
    by_cases hg : gone a <;> by_cases ha : a = k
    · subst ha; simp [hg] at ih ⊢; exact ih
    · simp [hg, read, ha, ih]
    · subst ha; simp [hg, read]
    · simp [hg, read, ha, ih]

/-! ### The canonical form -/

theorem above_iff (k : Nat) : above m k = true ↔ ∀ cell ∈ m, k < cell.1 := by simp [above]

theorem above_write (b k : Nat) (v : Byte) (hm : above m b = true) (hk : b < k) : above (write m k v) b = true := by
  induction m with
  | nil => simp [write, above, hk]
  | cons cell rest ih =>
    obtain ⟨a, u⟩ := cell
    rw [above_iff] at hm
    have hr : above rest b = true := (above_iff _ _).2 fun x hx => hm x (List.mem_cons_of_mem _ hx)
    have ha : b < a := hm (a, u) List.mem_cons_self
    have hrest := (above_iff _ _).1 hr
    simp only [write]
    split
    · rw [above_iff]; simp only [List.mem_cons]
      rintro x (rfl | rfl | hx)
      exacts [hk, ha, hrest x hx]
    · split
      · rw [above_iff]; simp only [List.mem_cons]
        rintro x (rfl | hx)
        exacts [hk, hrest x hx]
      · have h2 := (above_iff _ _).1 (ih hr)
        rw [above_iff]; simp only [List.mem_cons]
        rintro x (rfl | hx)
        exacts [ha, h2 x hx]

theorem wf_cons (a : Nat) (u : Byte) : wf ((a, u) :: m) = true ↔ above m a = true ∧ wf m = true := by simp [wf]

/-- A write keeps the canonical form. -/
theorem wf_write (k : Nat) (v : Byte) (hm : wf m = true) : wf (write m k v) = true := by
  induction m with
  | nil => simp [write, wf, above]
  | cons cell rest ih =>
    obtain ⟨a, u⟩ := cell
    obtain ⟨h1, h2⟩ := (wf_cons _ _ _).1 hm
    have hrest := (above_iff _ _).1 h1
    simp only [write]
    split
    · next h =>
      refine (wf_cons _ _ _).2 ⟨(above_iff _ _).2 ?_, hm⟩
      simp only [List.mem_cons]
      rintro x (rfl | hx)
      exacts [h, lt_trans h (hrest x hx)]
    · split
      · next h => subst h; exact (wf_cons _ _ _).2 ⟨h1, h2⟩
      · next h h' => exact (wf_cons _ _ _).2 ⟨above_write _ _ _ _ h1 (by omega), ih h2⟩

/-- A list of writes keeps the canonical form. -/
theorem wf_writeAll (cells : List Host.Cell) (hm : wf m = true) : wf (writeAll m cells) = true := by
  induction cells generalizing m with
  | nil => exact hm
  | cons cell cells ih => exact ih _ (wf_write _ _ _ hm)

/-- Forgetting cells keeps the canonical form. -/
theorem wf_forget (gone : Nat → Bool) (hm : wf m = true) : wf (forget m gone) = true := by
  induction m with
  | nil => rfl
  | cons cell rest ih =>
    obtain ⟨a, u⟩ := cell
    obtain ⟨h1, h2⟩ := (wf_cons _ _ _).1 hm
    have ih := ih h2
    simp only [forget, List.filter_cons] at ih ⊢
    split
    · refine (wf_cons _ _ _).2 ⟨(above_iff _ _).2 fun x hx => ?_, ih⟩
      exact (above_iff _ _).1 h1 x (List.mem_of_mem_filter hx)
    · exact ih

/-- The memories of the reset state are canonical. -/
theorem wf_reset : wf State.reset.cw = true ∧ wf State.reset.grid = true := by decide

/-! ### Reads decide a canonical memory -/

theorem read_none_of_above {k : Nat} (h : above m k = true) {j : Nat} (hj : j ≤ k) : read m j = none := by
  induction m with
  | nil => rfl
  | cons cell rest ih =>
    obtain ⟨a, u⟩ := cell
    have ha : k < a := (above_iff _ _).1 h (a, u) List.mem_cons_self
    have hr : above rest k = true := (above_iff _ _).2 fun x hx => (above_iff _ _).1 h x (List.mem_cons_of_mem _ hx)
    simp [read, show a ≠ j by omega, ih hr]

theorem above_of_le {k j : Nat} (h : above m k = true) (hj : j ≤ k) : above m j = true :=
  (above_iff _ _).2 fun x hx => lt_of_le_of_lt hj ((above_iff _ _).1 h x hx)

/-- Equal memories are equal data: two canonical memories with the same reads are the same list. -/
theorem ext_of_read (m m' : Memory) (h : wf m = true) (h' : wf m' = true) (hr : ∀ k, read m k = read m' k) :
    m = m' := by
  induction m generalizing m' with
  | nil =>
    cases m' with
    | nil => rfl
    | cons cell rest => exact absurd (hr cell.1) (by simp [read])
  | cons cell rest ih =>
    obtain ⟨a, u⟩ := cell
    obtain ⟨h1, h2⟩ := (wf_cons _ _ _).1 h
    cases m' with
    | nil => exact absurd (hr a) (by simp [read])
    | cons cell' rest' =>
      obtain ⟨b, v⟩ := cell'
      obtain ⟨h1', h2'⟩ := (wf_cons _ _ _).1 h'
      have hab : a = b := by
        rcases Nat.lt_trichotomy a b with hlt | heq | hgt
        · have := hr a
          simp [read, show b ≠ a by omega, read_none_of_above _ h1' (le_of_lt hlt)] at this
        · exact heq
        · have := hr b
          simp [read, show a ≠ b by omega, read_none_of_above _ h1 (le_of_lt hgt)] at this
      subst hab
      have huv : u = v := by simpa [read] using hr a
      subst huv
      congr 1
      refine ih _ h2 h2' fun k => ?_
      by_cases hk : a = k
      · subst hk
        rw [read_none_of_above _ h1 le_rfl, read_none_of_above _ h1' le_rfl]
      · simpa [read, hk] using hr k

/-! ### Reading several keys -/

theorem readAll_eq_some (ks : List Nat) (vs : List Byte) :
    readAll m ks = some vs ↔ ks.map (read m) = vs.map some := by
  induction ks generalizing vs with
  | nil => cases vs <;> simp [readAll]
  | cons k ks ih =>
    simp only [readAll]
    cases hk : read m k <;> cases hs : readAll m ks
    · cases vs <;> simp [hk]
    · cases vs <;> simp [hk]
    · cases vs with
      | nil => simp
      | cons v vs => have := ih vs; simp [hk, ← this, hs]
    · cases vs with
      | nil => simp
      | cons v vs => have := ih vs; simp [hk, ← this, hs]

theorem readAll_eq_none (ks : List Nat) : readAll m ks = none ↔ ∃ k ∈ ks, read m k = none := by
  induction ks with
  | nil => simp [readAll]
  | cons k ks ih =>
    simp only [readAll, List.mem_cons, exists_eq_or_imp, ← ih]
    cases read m k <;> cases readAll m ks <;> simp

theorem readAll_length {ks : List Nat} {vs : List Byte} (h : readAll m ks = some vs) : vs.length = ks.length := by
  simpa using (congrArg List.length ((readAll_eq_some m ks vs).1 h)).symm

theorem readAll_congr {m m' : Memory} {ks : List Nat} (h : ∀ k ∈ ks, read m k = read m' k) :
    readAll m ks = readAll m' ks := by
  induction ks with
  | nil => rfl
  | cons k ks ih =>
    simp only [readAll, h k List.mem_cons_self, ih fun j hj => h j (List.mem_cons_of_mem _ hj)]

end Sys2Proof.Machine.Memory
end

