-- ==== Sys2Proof/Laws/State.lean ====
section
/-! SUPPORT. One lemma per field per update of State, so that no proof unfolds a record update. -/

namespace Sys2Proof.Machine

variable (s : State)

/-! ### setResult -/

@[simp] theorem setResult_done (v : Byte) : (s.setResult v).done = s.done := rfl
@[simp] theorem setResult_err (v : Byte) : (s.setResult v).err = s.err := rfl
@[simp] theorem setResult_ovr (v : Byte) : (s.setResult v).ovr = s.ovr := rfl
@[simp] theorem setResult_busErr (v : Byte) : (s.setResult v).busErr = s.busErr := rfl
@[simp] theorem setResult_errCode (v : Byte) : (s.setResult v).errCode = s.errCode := rfl
@[simp] theorem setResult_zero (v : Byte) : (s.setResult v).zero = s.zero := rfl
@[simp] theorem setResult_fixed (v : Byte) : (s.setResult v).fixed = s.fixed := rfl
@[simp] theorem setResult_ie (v : Byte) : (s.setResult v).ie = s.ie := rfl
@[simp] theorem setResult_cmd (v : Byte) : (s.setResult v).cmd = s.cmd := rfl
@[simp] theorem setResult_result (v : Byte) : (s.setResult v).result = v := rfl
@[simp] theorem setResult_sizeSel (v : Byte) : (s.setResult v).sizeSel = s.sizeSel := rfl
@[simp] theorem setResult_genS (v : Byte) : (s.setResult v).genS = s.genS := rfl
@[simp] theorem setResult_gen (v : Byte) : (s.setResult v).gen = s.gen := rfl
@[simp] theorem setResult_rem (v : Byte) : (s.setResult v).rem = s.rem := rfl
@[simp] theorem setResult_syn (v : Byte) : (s.setResult v).syn = s.syn := rfl
@[simp] theorem setResult_cw (v : Byte) : (s.setResult v).cw = s.cw := rfl
@[simp] theorem setResult_grid (v : Byte) : (s.setResult v).grid = s.grid := rfl
@[simp] theorem setResult_walk (v : Byte) : (s.setResult v).walk = s.walk := rfl
@[simp] theorem setResult_pending (v : Byte) : (s.setResult v).pending = s.pending := rfl
@[simp] theorem setResult_response (v : Byte) : (s.setResult v).response = s.response := rfl
@[simp] theorem setResult_draws (v : Byte) : (s.setResult v).draws = s.draws := rfl
@[simp] theorem setResult_program (v : Byte) : (s.setResult v).program = s.program := rfl
@[simp] theorem setResult_hostNext (v : Byte) : (s.setResult v).hostNext = s.hostNext := rfl
@[simp] theorem setResult_turns (v : Byte) : (s.setResult v).turns = s.turns := rfl

/-! ### setGen -/

@[simp] theorem setGen_done (d : BitVec 7) (g : Vector Byte 69) : (s.setGen d g).done = s.done := rfl
@[simp] theorem setGen_err (d : BitVec 7) (g : Vector Byte 69) : (s.setGen d g).err = s.err := rfl
@[simp] theorem setGen_ovr (d : BitVec 7) (g : Vector Byte 69) : (s.setGen d g).ovr = s.ovr := rfl
@[simp] theorem setGen_busErr (d : BitVec 7) (g : Vector Byte 69) : (s.setGen d g).busErr = s.busErr := rfl
@[simp] theorem setGen_errCode (d : BitVec 7) (g : Vector Byte 69) : (s.setGen d g).errCode = s.errCode := rfl
@[simp] theorem setGen_zero (d : BitVec 7) (g : Vector Byte 69) : (s.setGen d g).zero = s.zero := rfl
@[simp] theorem setGen_fixed (d : BitVec 7) (g : Vector Byte 69) : (s.setGen d g).fixed = s.fixed := rfl
@[simp] theorem setGen_ie (d : BitVec 7) (g : Vector Byte 69) : (s.setGen d g).ie = s.ie := rfl
@[simp] theorem setGen_cmd (d : BitVec 7) (g : Vector Byte 69) : (s.setGen d g).cmd = s.cmd := rfl
@[simp] theorem setGen_result (d : BitVec 7) (g : Vector Byte 69) : (s.setGen d g).result = s.result := rfl
@[simp] theorem setGen_sizeSel (d : BitVec 7) (g : Vector Byte 69) : (s.setGen d g).sizeSel = s.sizeSel := rfl
@[simp] theorem setGen_genS (d : BitVec 7) (g : Vector Byte 69) : (s.setGen d g).genS = d := rfl
@[simp] theorem setGen_gen (d : BitVec 7) (g : Vector Byte 69) : (s.setGen d g).gen = g := rfl
@[simp] theorem setGen_rem (d : BitVec 7) (g : Vector Byte 69) : (s.setGen d g).rem = s.rem := rfl
@[simp] theorem setGen_syn (d : BitVec 7) (g : Vector Byte 69) : (s.setGen d g).syn = s.syn := rfl
@[simp] theorem setGen_cw (d : BitVec 7) (g : Vector Byte 69) : (s.setGen d g).cw = s.cw := rfl
@[simp] theorem setGen_grid (d : BitVec 7) (g : Vector Byte 69) : (s.setGen d g).grid = s.grid := rfl
@[simp] theorem setGen_walk (d : BitVec 7) (g : Vector Byte 69) : (s.setGen d g).walk = s.walk := rfl
@[simp] theorem setGen_pending (d : BitVec 7) (g : Vector Byte 69) : (s.setGen d g).pending = s.pending := rfl
@[simp] theorem setGen_response (d : BitVec 7) (g : Vector Byte 69) : (s.setGen d g).response = s.response := rfl
@[simp] theorem setGen_draws (d : BitVec 7) (g : Vector Byte 69) : (s.setGen d g).draws = s.draws := rfl
@[simp] theorem setGen_program (d : BitVec 7) (g : Vector Byte 69) : (s.setGen d g).program = s.program := rfl
@[simp] theorem setGen_hostNext (d : BitVec 7) (g : Vector Byte 69) : (s.setGen d g).hostNext = s.hostNext := rfl
@[simp] theorem setGen_turns (d : BitVec 7) (g : Vector Byte 69) : (s.setGen d g).turns = s.turns := rfl

/-! ### setRem -/

@[simp] theorem setRem_done (r : Vector Byte 68) (z : Bool) : (s.setRem r z).done = s.done := rfl
@[simp] theorem setRem_err (r : Vector Byte 68) (z : Bool) : (s.setRem r z).err = s.err := rfl
@[simp] theorem setRem_ovr (r : Vector Byte 68) (z : Bool) : (s.setRem r z).ovr = s.ovr := rfl
@[simp] theorem setRem_busErr (r : Vector Byte 68) (z : Bool) : (s.setRem r z).busErr = s.busErr := rfl
@[simp] theorem setRem_errCode (r : Vector Byte 68) (z : Bool) : (s.setRem r z).errCode = s.errCode := rfl
@[simp] theorem setRem_zero (r : Vector Byte 68) (z : Bool) : (s.setRem r z).zero = z := rfl
@[simp] theorem setRem_fixed (r : Vector Byte 68) (z : Bool) : (s.setRem r z).fixed = s.fixed := rfl
@[simp] theorem setRem_ie (r : Vector Byte 68) (z : Bool) : (s.setRem r z).ie = s.ie := rfl
@[simp] theorem setRem_cmd (r : Vector Byte 68) (z : Bool) : (s.setRem r z).cmd = s.cmd := rfl
@[simp] theorem setRem_result (r : Vector Byte 68) (z : Bool) : (s.setRem r z).result = s.result := rfl
@[simp] theorem setRem_sizeSel (r : Vector Byte 68) (z : Bool) : (s.setRem r z).sizeSel = s.sizeSel := rfl
@[simp] theorem setRem_genS (r : Vector Byte 68) (z : Bool) : (s.setRem r z).genS = s.genS := rfl
@[simp] theorem setRem_gen (r : Vector Byte 68) (z : Bool) : (s.setRem r z).gen = s.gen := rfl
@[simp] theorem setRem_rem (r : Vector Byte 68) (z : Bool) : (s.setRem r z).rem = r := rfl
@[simp] theorem setRem_syn (r : Vector Byte 68) (z : Bool) : (s.setRem r z).syn = s.syn := rfl
@[simp] theorem setRem_cw (r : Vector Byte 68) (z : Bool) : (s.setRem r z).cw = s.cw := rfl
@[simp] theorem setRem_grid (r : Vector Byte 68) (z : Bool) : (s.setRem r z).grid = s.grid := rfl
@[simp] theorem setRem_walk (r : Vector Byte 68) (z : Bool) : (s.setRem r z).walk = s.walk := rfl
@[simp] theorem setRem_pending (r : Vector Byte 68) (z : Bool) : (s.setRem r z).pending = s.pending := rfl
@[simp] theorem setRem_response (r : Vector Byte 68) (z : Bool) : (s.setRem r z).response = s.response := rfl
@[simp] theorem setRem_draws (r : Vector Byte 68) (z : Bool) : (s.setRem r z).draws = s.draws := rfl
@[simp] theorem setRem_program (r : Vector Byte 68) (z : Bool) : (s.setRem r z).program = s.program := rfl
@[simp] theorem setRem_hostNext (r : Vector Byte 68) (z : Bool) : (s.setRem r z).hostNext = s.hostNext := rfl
@[simp] theorem setRem_turns (r : Vector Byte 68) (z : Bool) : (s.setRem r z).turns = s.turns := rfl

/-! ### setSyn -/

@[simp] theorem setSyn_done (y : Vector Byte 68) (z : Bool) : (s.setSyn y z).done = s.done := rfl
@[simp] theorem setSyn_err (y : Vector Byte 68) (z : Bool) : (s.setSyn y z).err = s.err := rfl
@[simp] theorem setSyn_ovr (y : Vector Byte 68) (z : Bool) : (s.setSyn y z).ovr = s.ovr := rfl
@[simp] theorem setSyn_busErr (y : Vector Byte 68) (z : Bool) : (s.setSyn y z).busErr = s.busErr := rfl
@[simp] theorem setSyn_errCode (y : Vector Byte 68) (z : Bool) : (s.setSyn y z).errCode = s.errCode := rfl
@[simp] theorem setSyn_zero (y : Vector Byte 68) (z : Bool) : (s.setSyn y z).zero = z := rfl
@[simp] theorem setSyn_fixed (y : Vector Byte 68) (z : Bool) : (s.setSyn y z).fixed = s.fixed := rfl
@[simp] theorem setSyn_ie (y : Vector Byte 68) (z : Bool) : (s.setSyn y z).ie = s.ie := rfl
@[simp] theorem setSyn_cmd (y : Vector Byte 68) (z : Bool) : (s.setSyn y z).cmd = s.cmd := rfl
@[simp] theorem setSyn_result (y : Vector Byte 68) (z : Bool) : (s.setSyn y z).result = s.result := rfl
@[simp] theorem setSyn_sizeSel (y : Vector Byte 68) (z : Bool) : (s.setSyn y z).sizeSel = s.sizeSel := rfl
@[simp] theorem setSyn_genS (y : Vector Byte 68) (z : Bool) : (s.setSyn y z).genS = s.genS := rfl
@[simp] theorem setSyn_gen (y : Vector Byte 68) (z : Bool) : (s.setSyn y z).gen = s.gen := rfl
@[simp] theorem setSyn_rem (y : Vector Byte 68) (z : Bool) : (s.setSyn y z).rem = s.rem := rfl
@[simp] theorem setSyn_syn (y : Vector Byte 68) (z : Bool) : (s.setSyn y z).syn = y := rfl
@[simp] theorem setSyn_cw (y : Vector Byte 68) (z : Bool) : (s.setSyn y z).cw = s.cw := rfl
@[simp] theorem setSyn_grid (y : Vector Byte 68) (z : Bool) : (s.setSyn y z).grid = s.grid := rfl
@[simp] theorem setSyn_walk (y : Vector Byte 68) (z : Bool) : (s.setSyn y z).walk = s.walk := rfl
@[simp] theorem setSyn_pending (y : Vector Byte 68) (z : Bool) : (s.setSyn y z).pending = s.pending := rfl
@[simp] theorem setSyn_response (y : Vector Byte 68) (z : Bool) : (s.setSyn y z).response = s.response := rfl
@[simp] theorem setSyn_draws (y : Vector Byte 68) (z : Bool) : (s.setSyn y z).draws = s.draws := rfl
@[simp] theorem setSyn_program (y : Vector Byte 68) (z : Bool) : (s.setSyn y z).program = s.program := rfl
@[simp] theorem setSyn_hostNext (y : Vector Byte 68) (z : Bool) : (s.setSyn y z).hostNext = s.hostNext := rfl
@[simp] theorem setSyn_turns (y : Vector Byte 68) (z : Bool) : (s.setSyn y z).turns = s.turns := rfl

/-! ### setCw -/

@[simp] theorem setCw_done (m : Memory) : (s.setCw m).done = s.done := rfl
@[simp] theorem setCw_err (m : Memory) : (s.setCw m).err = s.err := rfl
@[simp] theorem setCw_ovr (m : Memory) : (s.setCw m).ovr = s.ovr := rfl
@[simp] theorem setCw_busErr (m : Memory) : (s.setCw m).busErr = s.busErr := rfl
@[simp] theorem setCw_errCode (m : Memory) : (s.setCw m).errCode = s.errCode := rfl
@[simp] theorem setCw_zero (m : Memory) : (s.setCw m).zero = s.zero := rfl
@[simp] theorem setCw_fixed (m : Memory) : (s.setCw m).fixed = s.fixed := rfl
@[simp] theorem setCw_ie (m : Memory) : (s.setCw m).ie = s.ie := rfl
@[simp] theorem setCw_cmd (m : Memory) : (s.setCw m).cmd = s.cmd := rfl
@[simp] theorem setCw_result (m : Memory) : (s.setCw m).result = s.result := rfl
@[simp] theorem setCw_sizeSel (m : Memory) : (s.setCw m).sizeSel = s.sizeSel := rfl
@[simp] theorem setCw_genS (m : Memory) : (s.setCw m).genS = s.genS := rfl
@[simp] theorem setCw_gen (m : Memory) : (s.setCw m).gen = s.gen := rfl
@[simp] theorem setCw_rem (m : Memory) : (s.setCw m).rem = s.rem := rfl
@[simp] theorem setCw_syn (m : Memory) : (s.setCw m).syn = s.syn := rfl
@[simp] theorem setCw_cw (m : Memory) : (s.setCw m).cw = m := rfl
@[simp] theorem setCw_grid (m : Memory) : (s.setCw m).grid = s.grid := rfl
@[simp] theorem setCw_walk (m : Memory) : (s.setCw m).walk = s.walk := rfl
@[simp] theorem setCw_pending (m : Memory) : (s.setCw m).pending = s.pending := rfl
@[simp] theorem setCw_response (m : Memory) : (s.setCw m).response = s.response := rfl
@[simp] theorem setCw_draws (m : Memory) : (s.setCw m).draws = s.draws := rfl
@[simp] theorem setCw_program (m : Memory) : (s.setCw m).program = s.program := rfl
@[simp] theorem setCw_hostNext (m : Memory) : (s.setCw m).hostNext = s.hostNext := rfl
@[simp] theorem setCw_turns (m : Memory) : (s.setCw m).turns = s.turns := rfl

/-! ### setGrid -/

@[simp] theorem setGrid_done (m : Memory) : (s.setGrid m).done = s.done := rfl
@[simp] theorem setGrid_err (m : Memory) : (s.setGrid m).err = s.err := rfl
@[simp] theorem setGrid_ovr (m : Memory) : (s.setGrid m).ovr = s.ovr := rfl
@[simp] theorem setGrid_busErr (m : Memory) : (s.setGrid m).busErr = s.busErr := rfl
@[simp] theorem setGrid_errCode (m : Memory) : (s.setGrid m).errCode = s.errCode := rfl
@[simp] theorem setGrid_zero (m : Memory) : (s.setGrid m).zero = s.zero := rfl
@[simp] theorem setGrid_fixed (m : Memory) : (s.setGrid m).fixed = s.fixed := rfl
@[simp] theorem setGrid_ie (m : Memory) : (s.setGrid m).ie = s.ie := rfl
@[simp] theorem setGrid_cmd (m : Memory) : (s.setGrid m).cmd = s.cmd := rfl
@[simp] theorem setGrid_result (m : Memory) : (s.setGrid m).result = s.result := rfl
@[simp] theorem setGrid_sizeSel (m : Memory) : (s.setGrid m).sizeSel = s.sizeSel := rfl
@[simp] theorem setGrid_genS (m : Memory) : (s.setGrid m).genS = s.genS := rfl
@[simp] theorem setGrid_gen (m : Memory) : (s.setGrid m).gen = s.gen := rfl
@[simp] theorem setGrid_rem (m : Memory) : (s.setGrid m).rem = s.rem := rfl
@[simp] theorem setGrid_syn (m : Memory) : (s.setGrid m).syn = s.syn := rfl
@[simp] theorem setGrid_cw (m : Memory) : (s.setGrid m).cw = s.cw := rfl
@[simp] theorem setGrid_grid (m : Memory) : (s.setGrid m).grid = m := rfl
@[simp] theorem setGrid_walk (m : Memory) : (s.setGrid m).walk = s.walk := rfl
@[simp] theorem setGrid_pending (m : Memory) : (s.setGrid m).pending = s.pending := rfl
@[simp] theorem setGrid_response (m : Memory) : (s.setGrid m).response = s.response := rfl
@[simp] theorem setGrid_draws (m : Memory) : (s.setGrid m).draws = s.draws := rfl
@[simp] theorem setGrid_program (m : Memory) : (s.setGrid m).program = s.program := rfl
@[simp] theorem setGrid_hostNext (m : Memory) : (s.setGrid m).hostNext = s.hostNext := rfl
@[simp] theorem setGrid_turns (m : Memory) : (s.setGrid m).turns = s.turns := rfl

/-! ### setWalk -/

@[simp] theorem setWalk_done (w : Walk) : (s.setWalk w).done = s.done := rfl
@[simp] theorem setWalk_err (w : Walk) : (s.setWalk w).err = s.err := rfl
@[simp] theorem setWalk_ovr (w : Walk) : (s.setWalk w).ovr = s.ovr := rfl
@[simp] theorem setWalk_busErr (w : Walk) : (s.setWalk w).busErr = s.busErr := rfl
@[simp] theorem setWalk_errCode (w : Walk) : (s.setWalk w).errCode = s.errCode := rfl
@[simp] theorem setWalk_zero (w : Walk) : (s.setWalk w).zero = s.zero := rfl
@[simp] theorem setWalk_fixed (w : Walk) : (s.setWalk w).fixed = s.fixed := rfl
@[simp] theorem setWalk_ie (w : Walk) : (s.setWalk w).ie = s.ie := rfl
@[simp] theorem setWalk_cmd (w : Walk) : (s.setWalk w).cmd = s.cmd := rfl
@[simp] theorem setWalk_result (w : Walk) : (s.setWalk w).result = s.result := rfl
@[simp] theorem setWalk_sizeSel (w : Walk) : (s.setWalk w).sizeSel = s.sizeSel := rfl
@[simp] theorem setWalk_genS (w : Walk) : (s.setWalk w).genS = s.genS := rfl
@[simp] theorem setWalk_gen (w : Walk) : (s.setWalk w).gen = s.gen := rfl
@[simp] theorem setWalk_rem (w : Walk) : (s.setWalk w).rem = s.rem := rfl
@[simp] theorem setWalk_syn (w : Walk) : (s.setWalk w).syn = s.syn := rfl
@[simp] theorem setWalk_cw (w : Walk) : (s.setWalk w).cw = s.cw := rfl
@[simp] theorem setWalk_grid (w : Walk) : (s.setWalk w).grid = s.grid := rfl
@[simp] theorem setWalk_walk (w : Walk) : (s.setWalk w).walk = w := rfl
@[simp] theorem setWalk_pending (w : Walk) : (s.setWalk w).pending = s.pending := rfl
@[simp] theorem setWalk_response (w : Walk) : (s.setWalk w).response = s.response := rfl
@[simp] theorem setWalk_draws (w : Walk) : (s.setWalk w).draws = s.draws := rfl
@[simp] theorem setWalk_program (w : Walk) : (s.setWalk w).program = s.program := rfl
@[simp] theorem setWalk_hostNext (w : Walk) : (s.setWalk w).hostNext = s.hostNext := rfl
@[simp] theorem setWalk_turns (w : Walk) : (s.setWalk w).turns = s.turns := rfl

/-! ### setFixed -/

@[simp] theorem setFixed_done (b : Bool) : (s.setFixed b).done = s.done := rfl
@[simp] theorem setFixed_err (b : Bool) : (s.setFixed b).err = s.err := rfl
@[simp] theorem setFixed_ovr (b : Bool) : (s.setFixed b).ovr = s.ovr := rfl
@[simp] theorem setFixed_busErr (b : Bool) : (s.setFixed b).busErr = s.busErr := rfl
@[simp] theorem setFixed_errCode (b : Bool) : (s.setFixed b).errCode = s.errCode := rfl
@[simp] theorem setFixed_zero (b : Bool) : (s.setFixed b).zero = s.zero := rfl
@[simp] theorem setFixed_fixed (b : Bool) : (s.setFixed b).fixed = b := rfl
@[simp] theorem setFixed_ie (b : Bool) : (s.setFixed b).ie = s.ie := rfl
@[simp] theorem setFixed_cmd (b : Bool) : (s.setFixed b).cmd = s.cmd := rfl
@[simp] theorem setFixed_result (b : Bool) : (s.setFixed b).result = s.result := rfl
@[simp] theorem setFixed_sizeSel (b : Bool) : (s.setFixed b).sizeSel = s.sizeSel := rfl
@[simp] theorem setFixed_genS (b : Bool) : (s.setFixed b).genS = s.genS := rfl
@[simp] theorem setFixed_gen (b : Bool) : (s.setFixed b).gen = s.gen := rfl
@[simp] theorem setFixed_rem (b : Bool) : (s.setFixed b).rem = s.rem := rfl
@[simp] theorem setFixed_syn (b : Bool) : (s.setFixed b).syn = s.syn := rfl
@[simp] theorem setFixed_cw (b : Bool) : (s.setFixed b).cw = s.cw := rfl
@[simp] theorem setFixed_grid (b : Bool) : (s.setFixed b).grid = s.grid := rfl
@[simp] theorem setFixed_walk (b : Bool) : (s.setFixed b).walk = s.walk := rfl
@[simp] theorem setFixed_pending (b : Bool) : (s.setFixed b).pending = s.pending := rfl
@[simp] theorem setFixed_response (b : Bool) : (s.setFixed b).response = s.response := rfl
@[simp] theorem setFixed_draws (b : Bool) : (s.setFixed b).draws = s.draws := rfl
@[simp] theorem setFixed_program (b : Bool) : (s.setFixed b).program = s.program := rfl
@[simp] theorem setFixed_hostNext (b : Bool) : (s.setFixed b).hostNext = s.hostNext := rfl
@[simp] theorem setFixed_turns (b : Bool) : (s.setFixed b).turns = s.turns := rfl

/-! ### popTurn -/

@[simp] theorem popTurn_done : (s.popTurn).done = s.done := rfl
@[simp] theorem popTurn_err : (s.popTurn).err = s.err := rfl
@[simp] theorem popTurn_ovr : (s.popTurn).ovr = s.ovr := rfl
@[simp] theorem popTurn_busErr : (s.popTurn).busErr = s.busErr := rfl
@[simp] theorem popTurn_errCode : (s.popTurn).errCode = s.errCode := rfl
@[simp] theorem popTurn_zero : (s.popTurn).zero = s.zero := rfl
@[simp] theorem popTurn_fixed : (s.popTurn).fixed = s.fixed := rfl
@[simp] theorem popTurn_ie : (s.popTurn).ie = s.ie := rfl
@[simp] theorem popTurn_cmd : (s.popTurn).cmd = s.cmd := rfl
@[simp] theorem popTurn_result : (s.popTurn).result = s.result := rfl
@[simp] theorem popTurn_sizeSel : (s.popTurn).sizeSel = s.sizeSel := rfl
@[simp] theorem popTurn_genS : (s.popTurn).genS = s.genS := rfl
@[simp] theorem popTurn_gen : (s.popTurn).gen = s.gen := rfl
@[simp] theorem popTurn_rem : (s.popTurn).rem = s.rem := rfl
@[simp] theorem popTurn_syn : (s.popTurn).syn = s.syn := rfl
@[simp] theorem popTurn_cw : (s.popTurn).cw = s.cw := rfl
@[simp] theorem popTurn_grid : (s.popTurn).grid = s.grid := rfl
@[simp] theorem popTurn_walk : (s.popTurn).walk = s.walk := rfl
@[simp] theorem popTurn_pending : (s.popTurn).pending = s.pending := rfl
@[simp] theorem popTurn_response : (s.popTurn).response = s.response := rfl
@[simp] theorem popTurn_draws : (s.popTurn).draws = s.draws := rfl
@[simp] theorem popTurn_program : (s.popTurn).program = s.program := rfl
@[simp] theorem popTurn_hostNext : (s.popTurn).hostNext = s.hostNext := rfl
@[simp] theorem popTurn_turns : (s.popTurn).turns = s.turns.tail := rfl

/-! ### complete -/

@[simp] theorem complete_done : (complete s).done = true := rfl
@[simp] theorem complete_err : (complete s).err = s.err := rfl
@[simp] theorem complete_ovr : (complete s).ovr = s.ovr := rfl
@[simp] theorem complete_busErr : (complete s).busErr = s.busErr := rfl
@[simp] theorem complete_errCode : (complete s).errCode = .none := rfl
@[simp] theorem complete_zero : (complete s).zero = s.zero := rfl
@[simp] theorem complete_fixed : (complete s).fixed = s.fixed := rfl
@[simp] theorem complete_ie : (complete s).ie = s.ie := rfl
@[simp] theorem complete_cmd : (complete s).cmd = s.cmd := rfl
@[simp] theorem complete_result : (complete s).result = s.result := rfl
@[simp] theorem complete_sizeSel : (complete s).sizeSel = s.sizeSel := rfl
@[simp] theorem complete_genS : (complete s).genS = s.genS := rfl
@[simp] theorem complete_gen : (complete s).gen = s.gen := rfl
@[simp] theorem complete_rem : (complete s).rem = s.rem := rfl
@[simp] theorem complete_syn : (complete s).syn = s.syn := rfl
@[simp] theorem complete_cw : (complete s).cw = s.cw := rfl
@[simp] theorem complete_grid : (complete s).grid = s.grid := rfl
@[simp] theorem complete_walk : (complete s).walk = s.walk := rfl
@[simp] theorem complete_pending : (complete s).pending = none := rfl
@[simp] theorem complete_response : (complete s).response = s.response := rfl
@[simp] theorem complete_draws : (complete s).draws = s.draws := rfl
@[simp] theorem complete_program : (complete s).program = s.program := rfl
@[simp] theorem complete_hostNext : (complete s).hostNext = s.hostNext := rfl
@[simp] theorem complete_turns : (complete s).turns = s.turns := rfl

/-! ### acknowledge -/

@[simp] theorem acknowledge_done (v : Word) : (acknowledge v s).done = (s.done && !v.getLsbD 1) := rfl
@[simp] theorem acknowledge_err (v : Word) : (acknowledge v s).err = (s.err && !v.getLsbD 2) := rfl
@[simp] theorem acknowledge_ovr (v : Word) : (acknowledge v s).ovr = (s.ovr && !v.getLsbD 3) := rfl
@[simp] theorem acknowledge_busErr (v : Word) : (acknowledge v s).busErr = (s.busErr && !v.getLsbD 4) := rfl
@[simp] theorem acknowledge_errCode (v : Word) : (acknowledge v s).errCode = s.errCode := rfl
@[simp] theorem acknowledge_zero (v : Word) : (acknowledge v s).zero = s.zero := rfl
@[simp] theorem acknowledge_fixed (v : Word) : (acknowledge v s).fixed = s.fixed := rfl
@[simp] theorem acknowledge_ie (v : Word) : (acknowledge v s).ie = s.ie := rfl
@[simp] theorem acknowledge_cmd (v : Word) : (acknowledge v s).cmd = s.cmd := rfl
@[simp] theorem acknowledge_result (v : Word) : (acknowledge v s).result = s.result := rfl
@[simp] theorem acknowledge_sizeSel (v : Word) : (acknowledge v s).sizeSel = s.sizeSel := rfl
@[simp] theorem acknowledge_genS (v : Word) : (acknowledge v s).genS = s.genS := rfl
@[simp] theorem acknowledge_gen (v : Word) : (acknowledge v s).gen = s.gen := rfl
@[simp] theorem acknowledge_rem (v : Word) : (acknowledge v s).rem = s.rem := rfl
@[simp] theorem acknowledge_syn (v : Word) : (acknowledge v s).syn = s.syn := rfl
@[simp] theorem acknowledge_cw (v : Word) : (acknowledge v s).cw = s.cw := rfl
@[simp] theorem acknowledge_grid (v : Word) : (acknowledge v s).grid = s.grid := rfl
@[simp] theorem acknowledge_walk (v : Word) : (acknowledge v s).walk = s.walk := rfl
@[simp] theorem acknowledge_pending (v : Word) : (acknowledge v s).pending = s.pending := rfl
@[simp] theorem acknowledge_response (v : Word) : (acknowledge v s).response = s.response := rfl
@[simp] theorem acknowledge_draws (v : Word) : (acknowledge v s).draws = s.draws := rfl
@[simp] theorem acknowledge_program (v : Word) : (acknowledge v s).program = s.program := rfl
@[simp] theorem acknowledge_hostNext (v : Word) : (acknowledge v s).hostNext = s.hostNext := rfl
@[simp] theorem acknowledge_turns (v : Word) : (acknowledge v s).turns = s.turns := rfl

/-! ### issue -/

@[simp] theorem issue_done (w : Word) : (issue w s).done = s.done := rfl
@[simp] theorem issue_err (w : Word) : (issue w s).err = s.err := rfl
@[simp] theorem issue_ovr (w : Word) : (issue w s).ovr = s.ovr := rfl
@[simp] theorem issue_busErr (w : Word) : (issue w s).busErr = s.busErr := rfl
@[simp] theorem issue_errCode (w : Word) : (issue w s).errCode = s.errCode := rfl
@[simp] theorem issue_zero (w : Word) : (issue w s).zero = s.zero := rfl
@[simp] theorem issue_fixed (w : Word) : (issue w s).fixed = s.fixed := rfl
@[simp] theorem issue_ie (w : Word) : (issue w s).ie = s.ie := rfl
@[simp] theorem issue_cmd (w : Word) : (issue w s).cmd = w := rfl
@[simp] theorem issue_result (w : Word) : (issue w s).result = s.result := rfl
@[simp] theorem issue_sizeSel (w : Word) : (issue w s).sizeSel = s.sizeSel := rfl
@[simp] theorem issue_genS (w : Word) : (issue w s).genS = s.genS := rfl
@[simp] theorem issue_gen (w : Word) : (issue w s).gen = s.gen := rfl
@[simp] theorem issue_rem (w : Word) : (issue w s).rem = s.rem := rfl
@[simp] theorem issue_syn (w : Word) : (issue w s).syn = s.syn := rfl
@[simp] theorem issue_cw (w : Word) : (issue w s).cw = s.cw := rfl
@[simp] theorem issue_grid (w : Word) : (issue w s).grid = s.grid := rfl
@[simp] theorem issue_walk (w : Word) : (issue w s).walk = s.walk := rfl
@[simp] theorem issue_pending (w : Word) : (issue w s).pending = some w := rfl
@[simp] theorem issue_response (w : Word) : (issue w s).response = s.response := rfl
@[simp] theorem issue_draws (w : Word) : (issue w s).draws = s.draws := rfl
@[simp] theorem issue_program (w : Word) : (issue w s).program = s.program := rfl
@[simp] theorem issue_hostNext (w : Word) : (issue w s).hostNext = s.hostNext := rfl
@[simp] theorem issue_turns (w : Word) : (issue w s).turns = s.turns := rfl

/-! ### resetTo -/

@[simp] theorem resetTo_done (c g : Memory) (k : Option MaskBits) : (resetTo c g k s).done = State.reset.done := rfl
@[simp] theorem resetTo_err (c g : Memory) (k : Option MaskBits) : (resetTo c g k s).err = State.reset.err := rfl
@[simp] theorem resetTo_ovr (c g : Memory) (k : Option MaskBits) : (resetTo c g k s).ovr = State.reset.ovr := rfl
@[simp] theorem resetTo_busErr (c g : Memory) (k : Option MaskBits) : (resetTo c g k s).busErr = State.reset.busErr := rfl
@[simp] theorem resetTo_errCode (c g : Memory) (k : Option MaskBits) : (resetTo c g k s).errCode = State.reset.errCode := rfl
@[simp] theorem resetTo_zero (c g : Memory) (k : Option MaskBits) : (resetTo c g k s).zero = State.reset.zero := rfl
@[simp] theorem resetTo_fixed (c g : Memory) (k : Option MaskBits) : (resetTo c g k s).fixed = State.reset.fixed := rfl
@[simp] theorem resetTo_ie (c g : Memory) (k : Option MaskBits) : (resetTo c g k s).ie = State.reset.ie := rfl
@[simp] theorem resetTo_cmd (c g : Memory) (k : Option MaskBits) : (resetTo c g k s).cmd = State.reset.cmd := rfl
@[simp] theorem resetTo_result (c g : Memory) (k : Option MaskBits) : (resetTo c g k s).result = State.reset.result := rfl
@[simp] theorem resetTo_sizeSel (c g : Memory) (k : Option MaskBits) : (resetTo c g k s).sizeSel = State.reset.sizeSel := rfl
@[simp] theorem resetTo_genS (c g : Memory) (k : Option MaskBits) : (resetTo c g k s).genS = State.reset.genS := rfl
@[simp] theorem resetTo_gen (c g : Memory) (k : Option MaskBits) : (resetTo c g k s).gen = State.reset.gen := rfl
@[simp] theorem resetTo_rem (c g : Memory) (k : Option MaskBits) : (resetTo c g k s).rem = State.reset.rem := rfl
@[simp] theorem resetTo_syn (c g : Memory) (k : Option MaskBits) : (resetTo c g k s).syn = State.reset.syn := rfl
@[simp] theorem resetTo_cw (c g : Memory) (k : Option MaskBits) : (resetTo c g k s).cw = c := rfl
@[simp] theorem resetTo_grid (c g : Memory) (k : Option MaskBits) : (resetTo c g k s).grid = g := rfl
@[simp] theorem resetTo_walk (c g : Memory) (k : Option MaskBits) : (resetTo c g k s).walk = { Walk.reset with mask := k } := rfl
@[simp] theorem resetTo_pending (c g : Memory) (k : Option MaskBits) : (resetTo c g k s).pending = State.reset.pending := rfl
@[simp] theorem resetTo_response (c g : Memory) (k : Option MaskBits) : (resetTo c g k s).response = s.response := rfl
@[simp] theorem resetTo_draws (c g : Memory) (k : Option MaskBits) : (resetTo c g k s).draws = s.draws := rfl
@[simp] theorem resetTo_program (c g : Memory) (k : Option MaskBits) : (resetTo c g k s).program = s.program := rfl
@[simp] theorem resetTo_hostNext (c g : Memory) (k : Option MaskBits) : (resetTo c g k s).hostNext = s.hostNext := rfl
@[simp] theorem resetTo_turns (c g : Memory) (k : Option MaskBits) : (resetTo c g k s).turns = s.turns := rfl

/-! ### Views that an update does not touch -/

@[simp] theorem setResult_sizeClass (v : Byte) : (s.setResult v).sizeClass? = s.sizeClass? := rfl
@[simp] theorem setGen_sizeClass (d : BitVec 7) (g : Vector Byte 69) : (s.setGen d g).sizeClass? = s.sizeClass? := rfl
@[simp] theorem setCw_sizeClass (m : Memory) : (s.setCw m).sizeClass? = s.sizeClass? := rfl
@[simp] theorem setGrid_sizeClass (m : Memory) : (s.setGrid m).sizeClass? = s.sizeClass? := rfl
@[simp] theorem setWalk_sizeClass (w : Walk) : (s.setWalk w).sizeClass? = s.sizeClass? := rfl
@[simp] theorem setFixed_sizeClass (b : Bool) : (s.setFixed b).sizeClass? = s.sizeClass? := rfl
@[simp] theorem complete_sizeClass : (complete s).sizeClass? = s.sizeClass? := rfl
@[simp] theorem setGrid_walkBound (m : Memory) : (s.setGrid m).walkBound = s.walkBound := rfl
@[simp] theorem setWalk_walkBound (w : Walk) : (s.setWalk w).walkBound = s.walkBound := rfl
@[simp] theorem setGrid_cwAt (m : Memory) (i : Nat) : (s.setGrid m).cwAt i = s.cwAt i := rfl
@[simp] theorem setWalk_cwAt (w : Walk) (i : Nat) : (s.setWalk w).cwAt i = s.cwAt i := rfl
@[simp] theorem setFixed_cwAt (b : Bool) (i : Nat) : (s.setFixed b).cwAt i = s.cwAt i := rfl
@[simp] theorem setWalk_setWalk (w w' : Walk) : (s.setWalk w).setWalk w' = s.setWalk w' := rfl
@[simp] theorem complete_busy : (complete s).busy = false := rfl

/-! ### Walk moves -/

@[simp] theorem advance_chr (c : SizeClass) (w : Walk) : (w.advance c).chr = w.chr := by
  unfold Walk.advance; split <;> dsimp only <;> (try split) <;> rfl
@[simp] theorem advance_mask (c : SizeClass) (w : Walk) : (w.advance c).mask = w.mask := by
  unfold Walk.advance; split <;> dsimp only <;> (try split) <;> rfl
@[simp] theorem advance_wstate (c : SizeClass) (w : Walk) : (w.advance c).wstate = w.wstate := by
  unfold Walk.advance; split <;> dsimp only <;> (try split) <;> rfl
@[simp] theorem advance_lastLayout (c : SizeClass) (w : Walk) : (w.advance c).lastLayout = w.lastLayout := by
  unfold Walk.advance; split <;> dsimp only <;> (try split) <;> rfl
@[simp] theorem advance_lastRow (c : SizeClass) (w : Walk) : (w.advance c).lastRow = w.lastRow := by
  unfold Walk.advance; split <;> dsimp only <;> (try split) <;> rfl
@[simp] theorem advance_lastCol (c : SizeClass) (w : Walk) : (w.advance c).lastCol = w.lastCol := by
  unfold Walk.advance; split <;> dsimp only <;> (try split) <;> rfl

end Sys2Proof.Machine
end

