-- ==== Sys2Proof/Laws/Ops.lean ====
section
/-! SUPPORT. What each shared operation can do, said once: sequencing, the checks, the bodies of the commands, one
micro-step, and one step of the machine. Later proofs cite these instead of unfolding. -/

namespace Sys2Proof.Machine

/-! ### Sequencing and completion -/

@[simp] theorem andThen_next (s : State) (f : State → Result) : andThen (.next s) f = f s := rfl
@[simp] theorem andThen_fault (x : Fault) (f : State → Result) : andThen (.fault x) f = .fault x := rfl
@[simp] theorem andThen_refused (x : Refusal) (f : State → Result) : andThen (.refused x) f = .refused x := rfl

theorem andThen_eq_next {r : Result} {f : State → Result} {t : State} :
    andThen r f = .next t ↔ ∃ s, r = .next s ∧ f s = .next t := by
  cases r <;> simp [andThen]

theorem andThen_eq_fault {r : Result} {f : State → Result} {x : Fault} :
    andThen r f = .fault x ↔ r = .fault x ∨ ∃ s, r = .next s ∧ f s = .fault x := by
  cases r <;> simp [andThen]

theorem andThen_eq_refused {r : Result} {f : State → Result} {x : Refusal} :
    andThen r f = .refused x ↔ r = .refused x ∨ ∃ s, r = .next s ∧ f s = .refused x := by
  cases r <;> simp [andThen]

theorem andThen_assoc (r : Result) (f g : State → Result) :
    andThen (andThen r f) g = andThen r fun s => andThen (f s) g := by
  cases r <;> rfl

theorem succeed_eq_next {s t : State} : succeed s = .next t ↔ t = complete s := by
  simp [succeed, eq_comm]

theorem raiseError_eq_next {code : ErrCode} {s t : State} :
    raiseError code s = .next t ↔ t = { s with done := true, err := true, errCode := code, pending := none } := by
  simp [raiseError, eq_comm]

@[simp] theorem succeed_ne_fault (s : State) (x : Fault) : succeed s ≠ .fault x := by simp [succeed]
@[simp] theorem succeed_ne_refused (s : State) (x : Refusal) : succeed s ≠ .refused x := by simp [succeed]
@[simp] theorem raiseError_ne_fault (e : ErrCode) (s : State) (x : Fault) : raiseError e s ≠ .fault x := by
  simp [raiseError]
@[simp] theorem raiseError_ne_refused (e : ErrCode) (s : State) (x : Refusal) : raiseError e s ≠ .refused x := by
  simp [raiseError]

/-! ### The size class -/

theorem classRow_eq_none {sel : BitVec 5} : classRow sel = none ↔ 30 ≤ sel.toNat := by
  simp [classRow, sizeRom]

theorem sizeClass_mem {s : State} {c : SizeClass} (h : s.sizeClass? = some c) : c ∈ sizeRom :=
  List.mem_of_getElem? h

theorem sizeClass_lt {s : State} {c : SizeClass} (h : s.sizeClass? = some c) : s.sizeSel.toNat < 30 := by
  by_contra hn
  rw [State.sizeClass?, classRow_eq_none.2 (by omega)] at h
  cases h

theorem withClass_none {s : State} (h : s.sizeClass? = none) (f : SizeClass → Result) :
    withClass s f = raiseError .badSize s := by simp [withClass, h]

theorem withClass_some {s : State} {c : SizeClass} (h : s.sizeClass? = some c) (f : SizeClass → Result) :
    withClass s f = f c := by simp [withClass, h]

/-- All that `withClass` can do. -/
theorem withClass_cases (s : State) (f : SizeClass → Result) :
    (s.sizeClass? = none ∧ withClass s f = raiseError .badSize s) ∨
    ∃ c, s.sizeClass? = some c ∧ withClass s f = f c := by
  cases h : s.sizeClass? with
  | none => exact .inl ⟨rfl, withClass_none h f⟩
  | some c => exact .inr ⟨c, rfl, withClass_some h f⟩

/-! ### Register arrays -/

@[simp] theorem bytes_toList (n : Nat) (f : Nat → Byte) : (bytes n f).toList = (List.range n).map f := rfl

theorem bytes_getElem? (n : Nat) (f : Nat → Byte) (i : Nat) :
    (bytes n f).toList[i]? = if i < n then some (f i) else none := by
  by_cases h : i < n <;> simp [h]

theorem allZero_iff {deg : Nat} {out : Vector Byte 68} :
    allZero deg out = true ↔ ∀ i, i < deg → out.toList.getD i 0 = 0 := by simp [allZero]

/-! ### Memories by their keys -/

theorem Memory.wf_iff_pairwise (m : Memory) : Memory.wf m = true ↔ (m.map (·.1)).Pairwise (· < ·) := by
  induction m with
  | nil => simp [Memory.wf]
  | cons cell rest ih =>
    obtain ⟨a, u⟩ := cell
    rw [Memory.wf_cons, ih, List.map_cons, List.pairwise_cons, Memory.above_iff]
    simp

theorem Memory.read_of_mem {m : Memory} (hm : Memory.wf m = true) {k : Nat} {v : Byte} (h : (k, v) ∈ m) :
    Memory.read m k = some v := by
  induction m with
  | nil => cases h
  | cons cell rest ih =>
    obtain ⟨a, u⟩ := cell
    obtain ⟨h1, h2⟩ := (Memory.wf_cons _ _ _).1 hm
    rcases List.mem_cons.1 h with heq | h
    · cases heq; simp [Memory.read]
    · have := (Memory.above_iff _ _).1 h1 _ h
      simp only at this
      simp [Memory.read, show a ≠ k by omega, ih h2 h]

theorem Memory.mem_of_read {m : Memory} {k : Nat} {v : Byte} (h : Memory.read m k = some v) : (k, v) ∈ m := by
  induction m with
  | nil => cases h
  | cons cell rest ih =>
    obtain ⟨a, u⟩ := cell
    by_cases ha : a = k
    · subst ha; simp [Memory.read] at h; simp [h]
    · simp [Memory.read, ha] at h; exact List.mem_cons_of_mem _ (ih h)

/-- The cells after a write are the written one and old ones. -/
theorem Memory.mem_write {m : Memory} {k : Nat} {v : Byte} {cell : Host.Cell} (h : cell ∈ Memory.write m k v) :
    cell = (k, v) ∨ cell ∈ m := by
  induction m with
  | nil => simpa [Memory.write] using h
  | cons c rest ih =>
    obtain ⟨a, u⟩ := c
    simp only [Memory.write] at h
    split at h
    · simpa using h
    · split at h
      · rcases List.mem_cons.1 h with h | h
        exacts [.inl h, .inr (List.mem_cons_of_mem _ h)]
      · rcases List.mem_cons.1 h with h | h
        · exact .inr (h ▸ List.mem_cons_self)
        · exact (ih h).imp_right (List.mem_cons_of_mem _)

theorem Memory.mem_writeAll {m : Memory} {cells : List Host.Cell} {cell : Host.Cell}
    (h : cell ∈ Memory.writeAll m cells) : cell ∈ cells ∨ cell ∈ m := by
  induction cells generalizing m with
  | nil => exact .inr h
  | cons c cells ih =>
    rcases ih h with h | h
    · exact .inl (List.mem_cons_of_mem _ h)
    · rcases Memory.mem_write h with h | h
      exacts [.inl (h ▸ List.mem_cons_self), .inr h]

/-- The cleared grid is canonical. -/
theorem wf_clearedGrid : Memory.wf clearedGrid = true := by
  rw [Memory.wf_iff_pairwise, clearedGrid, List.map_flatMap, List.pairwise_flatMap]
  constructor
  · intro y _
    rw [List.map_map, List.pairwise_map]
    exact List.pairwise_lt_range.imp fun {a b} h => by simp [gridKey]; omega
  · refine List.pairwise_lt_range.imp fun {a b} h => ?_
    simp only [List.map_map, List.mem_map, List.mem_range, Function.comp, gridKey, Config.gridDim]
    rintro _ ⟨x, hx, rfl⟩ _ ⟨x', hx', rfl⟩
    omega

/-- Keys of different grid cells differ. -/
theorem gridKey_inj {x y x' y' : Nat} (hx : x < 256) (hx' : x' < 256) (h : gridKey x y = gridKey x' y') :
    x = x' ∧ y = y' := by
  unfold gridKey at h; omega

/-! ### Reed-Solomon -/

@[simp] theorem divStep_length (g r : List Byte) (low fb : Byte) :
    (divStep g low fb r).length = min (r.length - 1 + 1) g.length := by simp [divStep]

theorem mulLinear_length (r : Byte) (g : List Byte) : (mulLinear r g).length = g.length + 1 := by simp [mulLinear]

theorem generatorPoly_length (n : Nat) : (generatorPoly n).length = n + 1 := by
  induction n with
  | zero => rfl
  | succ n ih => rw [generatorPoly, mulLinear_length, ih]

@[simp] theorem genCoeffs_length (s : State) (deg : Nat) : (s.genCoeffs deg).length = deg := by simp [State.genCoeffs]

/-- What the body of RS_ENC can do. -/
theorem rsEncBody_cases (c : SizeClass) (s : State) :
    (encodeWrites c (s.genCoeffs c.s) s.cw (List.range c.b) = none ∧ rsEncBody c s = .fault .uninitRead) ∨
    ∃ ws, encodeWrites c (s.genCoeffs c.s) s.cw (List.range c.b) = some ws ∧
      rsEncBody c s = .next (s.setCw (Memory.writeAll s.cw ws)) := by
  unfold rsEncBody
  cases encodeWrites c (s.genCoeffs c.s) s.cw (List.range c.b) with
  | none => exact .inl ⟨rfl, rfl⟩
  | some ws => exact .inr ⟨ws, rfl, rfl⟩

theorem encodeWrites_cons_eq_some {c : SizeClass} {g : List Byte} {cw : Memory} {k : Nat} {ks : List Nat}
    {out : List Host.Cell} : encodeWrites c g cw (k :: ks) = some out ↔
      ∃ ws rest, blockWrites c g cw k = some ws ∧ encodeWrites c g cw ks = some rest ∧ out = ws ++ rest := by
  simp only [encodeWrites]
  cases blockWrites c g cw k <;> cases encodeWrites c g cw ks <;> simp [eq_comm]

/-- What the checks that RS_REM and RS_SYN share can do. -/
theorem withBlock_cases (k : Nat) (s : State) (f : SizeClass → List Byte → Result) :
    (s.sizeClass? = none ∧ withBlock k s f = raiseError .badSize s) ∨
    ∃ c, s.sizeClass? = some c ∧
      ((c.b ≤ k ∧ withBlock k s f = raiseError .badBlock s) ∨
       (k < c.b ∧ s.genS.toNat ≠ c.s ∧ withBlock k s f = raiseError .genMismatch s) ∨
       (k < c.b ∧ s.genS.toNat = c.s ∧ Memory.readAll s.cw (blockIndices c k) = none ∧
         withBlock k s f = .fault .uninitRead) ∨
       ∃ cs, k < c.b ∧ s.genS.toNat = c.s ∧ Memory.readAll s.cw (blockIndices c k) = some cs ∧
         withBlock k s f = f c cs) := by
  rcases withClass_cases s _ with ⟨h, hw⟩ | ⟨c, h, hw⟩
  · exact .inl ⟨h, hw⟩
  refine .inr ⟨c, h, ?_⟩
  simp only [withBlock, hw]
  by_cases hb : c.b ≤ k
  · exact .inl ⟨hb, by simp [hb]⟩
  by_cases hg : s.genS.toNat = c.s
  · cases hr : Memory.readAll s.cw (blockIndices c k) with
    | none => exact .inr (.inr (.inl ⟨by omega, hg, rfl, by simp [hb, hg]⟩))
    | some cs => exact .inr (.inr (.inr ⟨cs, by omega, hg, rfl, by simp [hb, hg]⟩))
  · exact .inr (.inl ⟨by omega, hg, by simp [hb, hg]⟩)

/-! ### The walk -/

/-- What placing one codeword can do. -/
theorem placeCodeword_cases (c : SizeClass) (t : Layout) (s : State) :
    (s.walk.place c t = none ∧ placeCodeword c t s = .fault .unreachable) ∨
    (∃ w, s.walk.place c t = some w ∧ s.cwAt s.walk.chr = none ∧ placeCodeword c t s = .fault .uninitRead) ∨
    ∃ w v, s.walk.place c t = some w ∧ s.cwAt s.walk.chr = some v ∧
      placeCodeword c t s = .next ((s.setGrid (Memory.writeAll s.grid
        (placeWrites c (layoutCells c t s.walk.row s.walk.col) v))).setWalk w) := by
  unfold placeCodeword
  cases s.walk.place c t with
  | none => exact .inl ⟨rfl, rfl⟩
  | some w =>
    cases s.cwAt s.walk.chr with
    | none => exact .inr (.inl ⟨w, rfl, rfl, rfl⟩)
    | some v => exact .inr (.inr ⟨w, v, rfl, rfl, rfl⟩)

/-- What placing does to the walk. -/
theorem place_eq_some {c : SizeClass} {t : Layout} {w w' : Walk} : w.place c t = some w' ↔
    w.chr < c.n ∧ ∃ m m', w.mask = some m ∧ assignCells c m (layoutCells c t w.row w.col) = some m' ∧
      w' = { w with mask := some m', lastLayout := some t, lastRow := w.row, lastCol := w.col, chr := w.chr + 1 } := by
  unfold Walk.place
  by_cases h : c.n ≤ w.chr
  · simp [h, Nat.not_lt.2 h]
  · simp only [h, if_false, Nat.lt_of_not_le h, true_and]
    cases hm : w.mask with
    | none => simp
    | some m =>
      cases ha : assignCells c m (layoutCells c t w.row w.col) with
      | none => simp [ha]
      | some m' => simp [ha, eq_comm]

theorem assignCells_cons {c : SizeClass} {m m' : MaskBits} {r k : Int} {rest : List MapCell} :
    assignCells c m ((r, k) :: rest) = some m' ↔
      inMatrix c r k = true ∧ maskBit m r k = false ∧ assignCells c (setMask m r k) rest = some m' := by
  simp only [assignCells]
  cases inMatrix c r k <;> cases maskBit m r k <;> simp

/-- What one micro-step of the control can do. -/
theorem walk_microStep_eq_some {c : SizeClass} {w w' : Walk} : w.microStep c = some w' ↔
    w.phase ≠ .finish ∧ ((w.select c = none ∧ w' = w.advance c) ∨
      ∃ t w1, w.select c = some t ∧ w.place c t = some w1 ∧ w' = w1.advance c) := by
  unfold Walk.microStep
  by_cases h : w.phase = .finish
  · simp [h]
  · cases hs : w.select c with
    | none => simp [h, eq_comm]
    | some t => simp [h, eq_comm]

/-- What one micro-step can do: it stops with UNREACHABLE exactly when its control part does, and with UNINIT_READ when
it places a codeword that holds no value; otherwise the control part moves, and a placed codeword is written. -/
theorem microStep_cases (c : SizeClass) (s : State) :
    (s.walk.microStep c = none ∧ microStep c s = .fault .unreachable) ∨
    (∃ w, s.walk.microStep c = some w ∧ s.walk.select c = none ∧ microStep c s = .next (s.setWalk w)) ∨
    (∃ w t, s.walk.microStep c = some w ∧ s.walk.select c = some t ∧ s.cwAt s.walk.chr = none ∧
      microStep c s = .fault .uninitRead) ∨
    ∃ w t v, s.walk.microStep c = some w ∧ s.walk.select c = some t ∧ s.cwAt s.walk.chr = some v ∧
      microStep c s = .next ((s.setGrid (Memory.writeAll s.grid
        (placeWrites c (layoutCells c t s.walk.row s.walk.col) v))).setWalk w) := by
  unfold microStep Walk.microStep
  by_cases h : s.walk.phase = .finish
  · exact .inl (by simp [h])
  simp only [h, if_false]
  cases hs : s.walk.select c with
  | none => exact .inr (.inl ⟨_, rfl, rfl, rfl⟩)
  | some t =>
    rcases placeCodeword_cases c t s with ⟨hp, he⟩ | ⟨w, hp, hc, he⟩ | ⟨w, v, hp, hc, he⟩
    · exact .inl (by simp [hp, he])
    · exact .inr (.inr (.inl ⟨w.advance c, t, by simp [hp], rfl, hc, by simp [he]⟩))
    · exact .inr (.inr (.inr ⟨w.advance c, t, v, by simp [hp], rfl, hc, by simp [he]⟩))

/-- What a bounded repetition can do when it ends. -/
theorem repeatUntil_succ_eq_next {c : SizeClass} {stop : Walk → Bool} {n : Nat} {s t : State} :
    repeatUntil c stop (n + 1) s = .next t ↔
      ∃ s', microStep c s = .next s' ∧ ((stop s'.walk = true ∧ t = s') ∨
        (stop s'.walk = false ∧ repeatUntil c stop n s' = .next t)) := by
  rw [repeatUntil, andThen_eq_next]
  refine exists_congr fun s' => and_congr_right fun _ => ?_
  cases stop s'.walk <;> simp [eq_comm]

/-- A larger bound gives the same end. -/
theorem repeatUntil_mono {c : SizeClass} {stop : Walk → Bool} {n m : Nat} {s t : State} (hnm : n ≤ m)
    (h : repeatUntil c stop n s = .next t) : repeatUntil c stop m s = .next t := by
  induction n generalizing m s with
  | zero => cases h
  | succ n ih =>
    obtain ⟨m, rfl⟩ : ∃ k, m = k + 1 := ⟨m - 1, by omega⟩
    rw [repeatUntil_succ_eq_next] at h ⊢
    obtain ⟨s', h1, h2 | ⟨h2, h3⟩⟩ := h
    · exact ⟨s', h1, .inl h2⟩
    · exact ⟨s', h1, .inr ⟨h2, ih (by omega) h3⟩⟩

/-- What a repetition preserves: any property that each micro-step keeps. -/
theorem repeatUntil_invariant {c : SizeClass} {stop : Walk → Bool} (P : State → Prop)
    (hP : ∀ s t, P s → microStep c s = .next t → P t) {n : Nat} {s t : State} (hs : P s)
    (h : repeatUntil c stop n s = .next t) : P t ∧ stop t.walk = true := by
  induction n generalizing s with
  | zero => cases h
  | succ n ih =>
    obtain ⟨s', h1, ⟨h2, rfl⟩ | ⟨_, h3⟩⟩ := repeatUntil_succ_eq_next.1 h
    · exact ⟨hP _ _ hs h1, h2⟩
    · exact ih (hP _ _ hs h1) h3

theorem endWalk_eq_next {c : SizeClass} {s t : State} : endWalk c s = .next t ↔
    s.walk.chr = c.n ∧ t = s.setWalk { s.walk with wstate := .done } := by
  unfold endWalk
  by_cases h : s.walk.chr = c.n <;> simp [h, eq_comm]

/-- What the body of PL_FIXUP can do. -/
theorem plFixupBody_cases (c : SizeClass) (s : State) :
    (s.walk.mask = none ∧ plFixupBody c s = .fault .unreachable) ∨
    ∃ m, s.walk.mask = some m ∧
      ((maskBit m (c.nrow - 1) (c.ncol - 1) = true ∧ plFixupBody c s = .next (s.setFixed false)) ∨
       (maskBit m (c.nrow - 1) (c.ncol - 1) = false ∧
         plFixupBody c s = .next (((s.setGrid (Memory.writeAll s.grid (fixupWrites c))).setWalk
           { s.walk with mask := some (fixupMask c m) }).setFixed true))) := by
  unfold plFixupBody
  cases s.walk.mask with
  | none => exact .inl ⟨rfl, rfl⟩
  | some m => cases h : maskBit m (c.nrow - 1) (c.ncol - 1) <;> simp [h]

/-! ### The machine -/

theorem engineStep_idle {s : State} (h : s.pending = none) : engineStep s = .next s := by simp [engineStep, h]

theorem engineStep_ok {s : State} {w : Word} {i : Instr} (h : s.pending = some w) (hd : decode w = .ok i) :
    engineStep s = exec i s := by simp [engineStep, h, hd]

theorem engineStep_illegal {s : State} {w : Word} {e : Illegal} (h : s.pending = some w) (hd : decode w = .error e) :
    engineStep s = raiseError .illegalOp s := by simp [engineStep, h, hd]

/-- All that one step can do. -/
theorem step_cases (s : State) :
    (s.nextTurn = .host ∧ step s = .next (hostTurn s.popTurn)) ∨
    (s.nextTurn = .engine ∧ step s = engineStep s.popTurn) ∨
    (s.nextTurn = .pinReset ∧ step s = .next (pinReset s.popTurn)) := by
  unfold step
  cases s.nextTurn <;> simp [takeTurn]

/-- All that the host's turn can do. -/
theorem hostTurn_cases (s : State) :
    hostTurn s = s ∨
    (∃ t, hostTurn s = transact t { s with hostNext := s.hostNext + 1 }) ∨
    ∃ addr n, hostTurn s = { hostRead addr .word s with hostNext := n } := by
  unfold hostTurn
  split
  · exact .inl rfl
  · exact .inr (.inl ⟨_, rfl⟩)
  · next back bit value addr _ =>
    by_cases h : (hostRead addr .word s).readData.getLsbD bit = value
    · exact .inr (.inr ⟨addr, s.hostNext + 1, by simp [h]⟩)
    · exact .inr (.inr ⟨addr, s.hostNext - back, by simp [h]⟩)

/-- All that a read can do to the state: its answer, the draw counter, and BUSERR when it is refused. -/
theorem hostRead_cases (addr : Addr) (width : Width) (s : State) :
    (accept addr width = none ∧
      hostRead addr width s = { s with busErr := true, response := some (.readDone 0 true) }) ∨
    (∃ l, accept addr width = some l ∧ hostRead addr width s = drawRead l s) ∨
    ∃ l v, accept addr width = some l ∧ s.held l = some v ∧
      hostRead addr width s = { s with response := some (.readDone v false) } := by
  unfold hostRead
  cases accept addr width with
  | none => exact .inl ⟨rfl, rfl⟩
  | some l =>
    cases hb : (s.busy && l.drawnWhileBusy) with
    | true => exact .inr (.inl ⟨l, rfl, by simp [hb]⟩)
    | false =>
      cases hh : s.held l with
      | none => exact .inr (.inl ⟨l, rfl, by simp [hb, hh]⟩)
      | some v => exact .inr (.inr ⟨l, v, rfl, hh, by simp [hb, hh]⟩)

end Sys2Proof.Machine
end

