-- ==== Sys2Proof/Laws/PerInstr.lean ====
section
/-! SUPPORT. A family of facts about every command as syntax: where its word's fields stand (R90). -/

namespace Sys2Proof.Laws.EncodeFields

/-- The fields of a command's word are its OP, A and B, and Z is 0 (R90, R92). -/
def Statement (i : Instr) : Prop :=
  opField (encode i) = opcode i ∧ aField (encode i) = operandA i ∧ bField (encode i) = operandB i ∧
    zField (encode i) = 0

/-- The same for any three bytes put together as `encode` does. -/
theorem fields_of_append (op a b : Byte) :
    opField ((0#8 ++ b) ++ (a ++ op)) = op ∧ aField ((0#8 ++ b) ++ (a ++ op)) = a ∧
      bField ((0#8 ++ b) ++ (a ++ op)) = b ∧ zField ((0#8 ++ b) ++ (a ++ op)) = 0 := by
  refine ⟨?_, ?_, ?_, ?_⟩ <;>
  · apply BitVec.eq_of_getLsbD_eq
    intro i hi
    simp only [opField, aField, bField, zField, BitVec.getLsbD_extractLsb', BitVec.getLsbD_append, hi, decide_true,
      Bool.true_and]
    first
      | (simp [show i < 16 by omega, show i < 8 by omega]; done)
      | (simp [show 8 + i < 16 by omega, show ¬ 8 + i < 8 by omega]; done)
      | (simp; done)
      | simp [show ¬ 24 + i < 16 by omega, show ¬ 24 + i - 16 < 8 by omega]

theorem nop : Statement .nop := fields_of_append _ _ _
theorem gfAdd (a b : Byte) : Statement (.gfAdd a b) := fields_of_append _ _ _
theorem gfMul (a b : Byte) : Statement (.gfMul a b) := fields_of_append _ _ _
theorem gfDiv (a b : Byte) : Statement (.gfDiv a b) := fields_of_append _ _ _
theorem gfExp (e : Nat) : Statement (.gfExp e) := fields_of_append _ _ _
theorem gfLog (a : Byte) : Statement (.gfLog a) := fields_of_append _ _ _
theorem rsGen (n : Nat) : Statement (.rsGen n) := fields_of_append _ _ _
theorem rsEnc : Statement .rsEnc := fields_of_append _ _ _
theorem rsRem (k : Nat) : Statement (.rsRem k) := fields_of_append _ _ _
theorem rsSyn (k : Nat) : Statement (.rsSyn k) := fields_of_append _ _ _
theorem plClear : Statement .plClear := fields_of_append _ _ _
theorem plFinder : Statement .plFinder := fields_of_append _ _ _
theorem plStart : Statement .plStart := fields_of_append _ _ _
theorem plStep : Statement .plStep := fields_of_append _ _ _
theorem plRun : Statement .plRun := fields_of_append _ _ _
theorem plFixup : Statement .plFixup := fields_of_append _ _ _
theorem symbol : Statement .symbol := fields_of_append _ _ _

end Sys2Proof.Laws.EncodeFields
end

