-- ==== Sys2Proof/Tests/Slice0.lean ====
section
/-! SUPPORT. Small tests with results taken from spec/95_test_vectors.md and the rules, and witnesses: for each statement
with hypotheses, concrete states and operands that meet them. -/

namespace Sys2Proof.Tests

set_option Elab.async false

open Sys2Proof.Machine Sys2Proof.Claims

/-! ### Helpers -/

/-- The answer is a next state with the property. -/
def goes (r : Result) (p : State → Bool) : Bool :=
  match r with
  | .next t => p t
  | .fault _ | .refused _ => false

/-- The answer is this fault. -/
def stops (r : Result) (f : Fault) : Bool :=
  match r with
  | .fault g => g == f
  | .next _ | .refused _ => false

theorem next_of_goes {r : Result} {p : State → Bool} (h : goes r p = true) : ∃ t, r = .next t ∧ p t = true := by
  cases r with
  | next t => exact ⟨t, rfl, h⟩
  | fault _ => cases h
  | refused _ => cases h

theorem fault_of_stops {r : Result} {f : Fault} (h : stops r f = true) : r = .fault f := by
  cases r with
  | fault g => simp [stops] at h; rw [h]
  | next _ => cases h
  | refused _ => cases h

/-- The step that performs the command word `w` from `s`. -/
def runWord (w : Nat) (s : State) : Result := step (s.withFetchWord 32 w)

/-- The state with a class selected. -/
def sized (sel : BitVec 5) : State := { State.reset with sizeSel := sel }

/-- The first codewords of CW, from index 0. -/
def cwOf (vs : List Byte) : Memory := (List.range vs.length).zip vs

/-- The class `sel` with the generator of degree `deg` and these codewords. -/
def loaded (sel : BitVec 5) (deg : Nat) (vs : List Byte) : State :=
  { State.reset with sizeSel := sel, genS := BitVec.ofNat 7 deg, gen := generatorArray deg, cw := cwOf vs }

/-- "123456" in class 0 before RS_ENC (95_test_vectors.md L2.4). -/
def digits : State := loaded 0 5 [142, 164, 186]

/-- "123456" in class 0 with its correction codewords. -/
def digitsDone : State := loaded 0 5 [142, 164, 186, 114, 25, 5, 88, 102]

/-- The codewords of the TEST symbol, class 1 (L1.1). -/
def testWords : List Byte := [85, 70, 84, 85, 129, 125, 231, 139, 243, 125, 208, 115]

/-- The TEST symbol with CW[0] <- 84 (L2.5). -/
def testChanged : State := loaded 1 7 (84 :: testWords.tail)

/-- The state with a word pending. -/
def pend (w : Word) (s : State) : State := { s with pending := some w, cmd := w }

/-- The state with this walk. -/
def walking (w : Option Walk) (s : State) : State := { s with walk := w.getD Walk.start }

/-- The row of class 0. -/
def class0 : SizeClass := ⟨.square, 10, 10, 1, 1, 8, 8, 8, 8, 3, 5, 1, 5, 8⟩

/-- The row of class 1. -/
def class1 : SizeClass := ⟨.square, 12, 12, 1, 1, 10, 10, 10, 10, 5, 7, 1, 7, 12⟩

/-- The row of class 23. -/
def class23 : SizeClass := ⟨.square, 144, 144, 6, 6, 22, 22, 132, 132, 1558, 620, 10, 62, 2178⟩

/-- GRID row y, the first n modules. -/
def rowOf (s : State) (y n : Nat) : List (Option Byte) := (List.range n).map fun x => s.gridAt x y

/-! ### Well-formedness (R95): an operand outside 0..255 is refused -/

theorem test_wf_gfExp : (Instr.gfExp 256).wf = false ∧ (Instr.gfExp 255).wf = true := by decide
theorem test_wf_rsGen : (Instr.rsGen 256).wf = false ∧ (Instr.rsGen 255).wf = true := by decide
theorem test_wf_rsRem : (Instr.rsRem 256).wf = false ∧ (Instr.rsRem 255).wf = true := by decide
theorem test_wf_rsSyn : (Instr.rsSyn 256).wf = false ∧ (Instr.rsSyn 255).wf = true := by decide

/-! ### Decoding: every constructor by a word of 95_test_vectors.md L2.1, bit by bit from R90 and R92 -/

theorem test_decode_nop : decode 0x00000000 = .ok .nop := by decide
theorem test_decode_gfAdd : decode 0b00000000_11001010_01010011_00000001 = .ok (.gfAdd 0x53 0xCA) := by decide
theorem test_decode_gfMul : decode 0x00CA5302 = .ok (.gfMul 0x53 0xCA) := by decide
theorem test_decode_gfDiv : decode 0x00022D03 = .ok (.gfDiv 0x2D 0x02) := by decide
theorem test_decode_gfExp : decode 0x00000704 = .ok (.gfExp 7) := by decide
theorem test_decode_gfLog : decode 0x00008005 = .ok (.gfLog 0x80) := by decide
theorem test_decode_rsGen : decode 0b00000000_00000000_00000111_00010000 = .ok (.rsGen 7) := by decide
theorem test_decode_rsEnc : decode 0x00000011 = .ok .rsEnc := by decide
theorem test_decode_rsRem : decode 0x00000012 = .ok (.rsRem 0) := by decide
theorem test_decode_rsSyn : decode 0x00000113 = .ok (.rsSyn 1) := by decide
theorem test_decode_plClear : decode 0b00000000_00000000_00000000_00100000 = .ok .plClear := by decide
theorem test_decode_plFinder : decode 0x00000021 = .ok .plFinder := by decide
theorem test_decode_plStart : decode 0x00000022 = .ok .plStart := by decide
theorem test_decode_plStep : decode 0x00000023 = .ok .plStep := by decide
theorem test_decode_plRun : decode 0x00000024 = .ok .plRun := by decide
theorem test_decode_plFixup : decode 0x00000025 = .ok .plFixup := by decide
theorem test_decode_symbol : decode 0b00000000_00000000_00000000_00110000 = .ok .symbol := by decide
theorem test_decode_unknown : decode 0x00000006 = .error .unknownOp ∧ decode 0x000000FF = .error .unknownOp := by
  decide
theorem test_decode_reserved :
    decode 0x01000001 = .error .reservedBit ∧ decode 0x00000100 = .error .reservedBit ∧
    decode 0x00010004 = .error .reservedBit ∧ decode 0x00000130 = .error .reservedBit ∧
    decode 0x00FF0012 = .error .reservedBit := by decide
theorem test_assemble_pseudo : assemble "GF_INV" [2] = some 0x00020103 := by decide

/-! ### One step per command, with the results of L2 -/

theorem test_nop : goes (runWord 0x00 .reset) (fun t => t.statusWord == 0x2 && t.result == 0) = true := by
  decide +kernel
theorem test_gfAdd : goes (runWord 0x00CA5301 .reset) (fun t => t.result == 153) = true := by decide +kernel
theorem test_gfMul : goes (runWord 0x00CA5302 .reset) (fun t => t.result == 75) = true := by decide +kernel
theorem test_gfDiv : goes (runWord 0x00CA5303 .reset) (fun t => t.result == 210) = true := by decide +kernel
theorem test_gfDiv_zero : goes (runWord 0x00003703 .reset) (fun t => t.statusWord == 0x2006) = true := by
  decide +kernel
theorem test_gfExp : goes (runWord 0x00006404 .reset) (fun t => t.result == 106) = true := by decide +kernel
theorem test_gfExp_top : goes (runWord 0x0000FF04 .reset) (fun t => t.result == 1) = true := by decide +kernel
theorem test_gfLog : goes (runWord 0x0000AB05 .reset) (fun t => t.result == 62) = true := by decide +kernel
theorem test_gfLog_zero : goes (runWord 0x00000005 .reset) (fun t => t.statusWord == 0x3006) = true := by
  decide +kernel
theorem test_rsGen : goes (runWord 0x00000C10 .reset) (fun t =>
    t.gen.toList.take 14 == [41, 153, 158, 91, 61, 42, 142, 213, 97, 178, 100, 242, 1, 0] && t.genS == 12) = true := by
  decide +kernel
theorem test_rsGen_bad : goes (runWord 0x00004510 .reset) (fun t => t.statusWord == 0x4006) = true := by
  decide +kernel
theorem test_rsEnc : goes (runWord 0x11 digits) (fun t =>
    (List.range 9).map t.cwAt == [some 142, some 164, some 186, some 114, some 25, some 5, some 88, some 102, none])
      = true := by decide +kernel
theorem test_rsEnc_mismatch : goes (runWord 0x11 (loaded 0 7 [142, 164, 186])) (fun t => t.statusWord == 0x6046) = true := by
  decide +kernel
theorem test_rsRem : goes (runWord 0x12 testChanged) (fun t =>
    t.rem.toList.take 8 == [252, 91, 6, 97, 202, 3, 100, 0] && !t.zero) = true := by decide +kernel
theorem test_rsRem_priority : goes (runWord 0x00000512 .reset) (fun t => t.statusWord == 0x7006) = true := by
  decide +kernel
theorem test_rsSyn : goes (runWord 0x13 testChanged) (fun t =>
    t.syn.toList.take 8 == [69, 155, 186, 26, 28, 175, 130, 0] && !t.zero) = true := by decide +kernel
theorem test_rsSyn_correct : goes (runWord 0x13 (loaded 1 7 testWords)) (fun t => t.zero) = true := by decide +kernel
theorem test_plClear : goes (runWord 0x20 .reset) (fun t => t.gridAt 143 143 == some 0) = true := by decide +kernel
theorem test_plFinder : goes (runWord 0x21 (sized 1)) (fun t =>
    rowOf t 0 12 == [1, 0, 1, 0, 1, 0, 1, 0, 1, 0, 1, 0].map some && t.gridAt 11 1 == some 1 && t.gridAt 1 1 == none)
      = true := by decide +kernel
theorem test_plStart : goes (runWord 0x22 .reset) (fun t =>
    t.plCur == 0x00000004 && t.plInfo == 0 && t.statusWord == 0x82) = true := by decide +kernel
theorem test_plStep_cornerC : goes (runWord 0x23 (walking none (loaded 25 11 [0xA5]))) (fun t =>
    t.plInfo == 0x00014001 && t.plCur == 0x00000004) = true := by decide +kernel
theorem test_plStep_nominal : goes (runWord 0x23 (walking none (loaded 24 7 testWords))) (fun t =>
    t.plCur == 0x00020002 && t.plInfo == 0x00011001 && t.plLast == 0x00000004) = true := by decide +kernel
theorem test_plRun : goes (runWord 0x24 (loaded 24 7 testWords)) (fun t =>
    rowOf t 3 17 == none :: [1, 1, 0, 0, 0, 0, 1, 0, 0, 1, 1, 0, 1, 0, 0, 1].map some && t.plCur == 0x0012000A &&
      t.plInfo == 0x0003100C) = true := by decide +kernel
theorem test_plFixup : goes (runWord 0x25 (walking ((walkAfter class1 23).map fun w => { w with wstate := .done })
    (sized 1))) (fun t => t.fixed && t.gridAt 9 9 == some 1 && t.gridAt 10 10 == some 1 && t.gridAt 9 10 == some 0 &&
      t.gridAt 10 9 == some 0) = true := by decide +kernel
theorem test_plFixup_early : goes (runWord 0x25 (walking none .reset)) (fun t => t.statusWord == 0xA086) = true := by
  decide +kernel
theorem test_symbol : goes (runWord 0x30 (loaded 0 0 [142, 164, 186])) (fun t =>
    rowOf t 1 10 == [1, 1, 0, 0, 1, 0, 1, 1, 0, 1].map some &&
    rowOf t 8 10 == [1, 0, 0, 1, 1, 1, 0, 1, 0, 0].map some && t.statusWord == 0x142) = true := by decide +kernel
theorem test_illegal : goes (runWord 0x01000001 .reset) (fun t => t.statusWord == 0x1006) = true := by decide +kernel
theorem test_uninit : stops (runWord 0x11 (loaded 0 5 [142, 164])) .uninitRead = true := by decide +kernel

/-! ### The bus -/

theorem test_highest_address : locate 0x43E3C = some (.grid 143 143) ∧ locate 0x43E40 = none ∧
    locate 0x20240 = none ∧ locate 0x00038 = none ∧ locate 0x06204 = some (.cw 2177) ∧ locate 0x06208 = none := by decide
theorem test_geom_class23 : (sized 23).geom 0 = 0x16169090 ∧ (sized 23).geom 1 = 0x0A668484 ∧
    (sized 23).geom 2 = 0x026C0616 ∧ (sized 23).geom 3 = 0x003E0882 ∧ (sized 30).geom 0 = 0 := by decide

/-- R242 with R87: SRST while a SYMBOL without a class is pending takes the whole GRID away, as PL_CLEAR's part of its write
set, and no CW byte. -/
theorem test_softReset_pending_symbol :
    let s := hostWrite 0x00008 .word 2 (pend 0x30 { sized 30 with cw := [(0, 7)], grid := [(0, 1)] })
    s.gridAt 0 0 = none ∧ s.cwAt 0 = some 7 ∧ s.pending = none := by decide

/-- R242 with R93: SRST while an illegal word is pending takes nothing away. -/
theorem test_softReset_pending_illegal :
    (hostWrite 0x00008 .word 2 (pend 0x06 { State.reset with grid := [(0, 1)] })).gridAt 0 0 = some 1 := by decide

/-! ### Witnesses: the hypotheses of each statement, met together -/

/-- The premises of `RunsAs`, good and bad, for the commands without operands. -/
theorem witness_RunsAs_noOperand : ∀ op ∈ [0x00#8, 0x11#8, 0x20#8, 0x21#8, 0x22#8, 0x23#8, 0x24#8, 0x25#8, 0x30#8],
    (pend (op.setWidth 32) .reset).pending = some (op.setWidth 32) ∧
    (op.setWidth 32).extractLsb' 0 8 = op ∧ ¬ badAbove8 (op.setWidth 32) ∧
    (pend (0x80000000#32 ||| op.setWidth 32) .reset).pending = some (0x80000000#32 ||| op.setWidth 32) ∧
    (0x80000000#32 ||| op.setWidth 32).extractLsb' 0 8 = op ∧ badAbove8 (0x80000000#32 ||| op.setWidth 32) := by
  unfold badAbove8; decide

/-- The premises of `RunsAs` for the commands that use A. -/
theorem witness_RunsAs_oneOperand : ∀ op ∈ [0x04#8, 0x05#8, 0x10#8, 0x12#8, 0x13#8],
    (pend (0xFF00#32 ||| op.setWidth 32) .reset).pending = some (0xFF00#32 ||| op.setWidth 32) ∧
    (0xFF00#32 ||| op.setWidth 32).extractLsb' 0 8 = op ∧ ¬ badAbove16 (0xFF00#32 ||| op.setWidth 32) ∧
    (0x10000#32 ||| op.setWidth 32).extractLsb' 0 8 = op ∧ badAbove16 (0x10000#32 ||| op.setWidth 32) := by
  unfold badAbove16; decide

/-- The premises of `RunsAs` for the commands that use A and B. -/
theorem witness_RunsAs_twoOperands : ∀ op ∈ [0x01#8, 0x02#8, 0x03#8],
    (pend (0xFFFF00#32 ||| op.setWidth 32) .reset).pending = some (0xFFFF00#32 ||| op.setWidth 32) ∧
    (0xFFFF00#32 ||| op.setWidth 32).extractLsb' 0 8 = op ∧ ¬ badAbove24 (0xFFFF00#32 ||| op.setWidth 32) ∧
    (0x1000000#32 ||| op.setWidth 32).extractLsb' 0 8 = op ∧ badAbove24 (0x1000000#32 ||| op.setWidth 32) := by
  unfold badAbove24; decide

/-- Operands at the ends of their ranges, for GfMulByLogTables, GfMulIsPolynomialProductModP,
GfDivIsQuotientOrDivZero, GfLogIsExponentOrLogZero and FieldLaws. -/
theorem witness_GfOperands : logRom 1 = some 0 ∧ logRom 0x96 = some 254 ∧ (1 : Byte) ≠ 0 ∧ (0xFF : Byte) ≠ 0 ∧
    alphaPow 254 = 0x96 := by decide

/-- ExpTableByDoubling, FieldLaws: both ends of the table, and equal entries at one index. -/
theorem witness_ExpTableByDoubling : 0 < 254 ∧ 253 < 254 ∧ (0 : Nat) < 255 ∧ (254 : Nat) < 255 ∧
    expRom 254 = expRom 254 ∧ (0xFF : Byte) ≠ 0 := by decide

/-- RsGenLoadsGenerator, GeneratorIsProductOfRoots: both error ends and both legal ends. -/
theorem witness_RsGenLoadsGenerator : ((0 : Nat) = 0 ∨ 68 < 0) ∧ ((69 : Nat) = 0 ∨ 68 < 69) ∧ 1 ≤ 1 ∧ 1 ≤ 68 ∧
    68 ≤ 68 := by decide

/-- The codewords of a short list are held. -/
theorem cwHeld_of_all {s : State} {n : Nat} (h : (List.range n).all (fun i => (s.cwAt i).isSome) = true) :
    CwHeld s n := fun i hi => List.all_eq_true.1 h i (List.mem_range.2 hi)

/-- A codeword is missing. -/
theorem not_cwHeld {s : State} {n i : Nat} (hi : i < n) (h : (s.cwAt i).isSome = false) : ¬ CwHeld s n := by
  intro hc; rw [hc i hi] at h; cases h

/-- Every clause without a class. -/
theorem witness_noClass : (sized 30).sizeClass? = none ∧ (sized 31).sizeClass? = none := by decide

theorem witness_RsEncWritesInterleavedCorrection :
    (digits.sizeClass? = some class0 ∧ digits.genS.toNat = class0.s ∧ CwHeld digits class0.d) ∧
    ((sized 0).sizeClass? = some class0 ∧ (sized 0).genS.toNat ≠ class0.s) ∧
    ((loaded 0 5 [142, 164]).sizeClass? = some class0 ∧ (loaded 0 5 [142, 164]).genS.toNat = class0.s ∧
      ¬ CwHeld (loaded 0 5 [142, 164]) class0.d) :=
  ⟨⟨by decide, by decide, cwHeld_of_all (by decide)⟩, ⟨by decide, by decide⟩,
    ⟨by decide, by decide, not_cwHeld (i := 2) (by decide) (by decide)⟩⟩

/-- CorrectionIsLinear: two data contents of equal length. -/
theorem witness_CorrectionIsLinear : ([142, 164, 186] : List Byte).length = ([0, 0, 1] : List Byte).length := rfl

/-- CheckRegisterIsDivisionRemainder: a codeword sequence with remainder 0, and a change of its last codeword. -/
theorem witness_CheckRegisterIsDivisionRemainder :
    ([228, 48, 15, 111, 62] : List Byte).head? = some 228 ∧ (228 : Byte) ≠ 0 ∧
    7 < ([142, 164, 186, 114, 25, 5, 88, 102] : List Byte).length ∧
    ([142, 164, 186, 114, 25, 5, 88, 102] : List Byte)[7]? ≠ some 103 ∧
    checkRegister [228, 48, 15, 111, 62] [142, 164, 186, 114, 25, 5, 88, 102] = List.replicate 5 0 := by decide +kernel

/-- The four cases of RS_REM and RS_SYN, at block indices on both sides of b = 1 and at the last block of class 23. -/
theorem witness_RsRemAndRsSyn :
    (digitsDone.sizeClass? = some class0 ∧ 0 < class0.b ∧ digitsDone.genS.toNat = class0.s ∧
      Memory.readAll digitsDone.cw (blockIndices class0 0) = some [142, 164, 186, 114, 25, 5, 88, 102]) ∧
    (digitsDone.sizeClass? = some class0 ∧ class0.b ≤ 1) ∧
    ((sized 0).sizeClass? = some class0 ∧ 0 < class0.b ∧ (sized 0).genS.toNat ≠ class0.s) ∧
    ((loaded 23 62 []).sizeClass? = some class23 ∧ 9 < class23.b ∧ (loaded 23 62 []).genS.toNat = class23.s ∧
      ∃ j ∈ blockIndices class23 9, (loaded 23 62 []).cwAt j = none) :=
  ⟨by decide +kernel, by decide +kernel, by decide +kernel, by decide +kernel, by decide, by decide, 9,
    by decide +kernel, by decide +kernel⟩

theorem witness_EncodedBlocksCheckToZero : ∃ t, digits.sizeClass? = some class0 ∧ digits.genS.toNat = class0.s ∧
    digits.gen = generatorArray class0.s ∧ CwHeld digits class0.d ∧ exec .rsEnc digits = .next t ∧ 0 < class0.b := by
  obtain ⟨t, ht, -⟩ := next_of_goes (r := exec .rsEnc digits) (p := fun _ => true) (by decide +kernel)
  exact ⟨t, by decide, by decide, rfl, cwHeld_of_all (by decide), ht, by decide⟩

theorem witness_RemainderAndSyndromesAgreeOnZero : ∃ u v, digits.gen = generatorArray digits.genS.toNat ∧
    exec (.rsRem 0) testChanged = .next u ∧ exec (.rsSyn 0) testChanged = .next v ∧
    testChanged.gen = generatorArray testChanged.genS.toNat ∧ u.errCode = .none := by
  obtain ⟨u, hu, pu⟩ := next_of_goes (r := exec (.rsRem 0) testChanged) (p := fun u => u.errCode == .none)
    (by decide +kernel)
  obtain ⟨v, hv, -⟩ := next_of_goes (r := exec (.rsSyn 0) testChanged) (p := fun _ => true) (by decide +kernel)
  exact ⟨u, v, rfl, hu, hv, rfl, by simpa using pu⟩

/-- BlocksPartitionTheData: the first and the last data index of class 23, with their blocks. -/
theorem witness_BlocksPartitionTheData : class23 ∈ sizeRom ∧ sizeRom[23]? = some class23 ∧ 0 < class23.d ∧
    1557 < class23.d ∧ 0 < class23.b ∧ 9 < class23.b ∧ 9 ∈ dataIndices class23 9 ∧ 1557 ∈ dataIndices class23 7 := by
  decide +kernel

/-- PlClearZeroesWholeGrid: a key of the grid's last cell, and one that is no grid cell. -/
theorem witness_PlClearZeroesWholeGrid : 143 < 144 ∧ isGridKey (gridKey 143 143) = true ∧ isGridKey 144 = false := by
  decide

/-- PlFinderDrawsFinder: the meeting cell of two cases, a data cell, and the first cell outside the symbol. -/
theorem witness_PlFinderDrawsFinder : (sized 1).sizeClass? = some class1 ∧ 11 < class1.w ∧ 0 < class1.h ∧
    FinderCase class1 11 0 false ∧ FinderCase class1 0 0 true ∧ (∀ b, ¬ FinderCase class1 1 1 b) ∧
    ¬ (12 < class1.w) := by
  unfold FinderCase; decide

theorem witness_PlStartBeginsWalk : (sized 29).sizeClass?.isSome = true ∧ 131 < 132 := by decide

/-- The walk right after PL_START is a legal walk. -/
theorem walkOk_start {s : State} {c : SizeClass} (hc : s.sizeClass? = some c) (hn : 0 < c.n)
    (hw : s.walk = Walk.start) : s.WalkOk := by
  unfold State.WalkOk
  rw [hw]
  exact ⟨c, 0, hc, rfl, by decide, hn⟩

/-- The walk of class 0 before its last codeword. -/
theorem walk_before_last : ∃ w, walkAfter class0 10 = some w ∧ w.wstate = .active ∧ w.phase ≠ .finish ∧ w.chr = 7 := by
  have h : ((walkAfter class0 10).any fun w => w.wstate == .active && w.phase != .finish && w.chr == 7) = true := by
    decide +kernel
  cases hw : walkAfter class0 10 with
  | none => rw [hw] at h; cases h
  | some w => rw [hw] at h; simp at h; exact ⟨w, rfl, h.1.1, h.1.2, h.2⟩

/-- The finished walk of a class, with the corner cell of its mask. -/
theorem walk_done (c : SizeClass) (n : Nat) (b : Bool) (h : ((walkAfter c n).any fun w => w.phase == .finish &&
    w.chr == c.n && w.mask.any fun m => maskBit m (c.nrow - 1) (c.ncol - 1) == b) = true) :
    ∃ w m, walkAfter c n = some w ∧ w.phase = .finish ∧ w.chr = c.n ∧ w.mask = some m ∧
      maskBit m (c.nrow - 1) (c.ncol - 1) = b := by
  cases hw : walkAfter c n with
  | none => rw [hw] at h; cases h
  | some w =>
    rw [hw] at h
    cases hm : w.mask with
    | none => rw [Option.any_some, hm] at h; simp at h
    | some m => rw [Option.any_some, hm] at h; simp at h; exact ⟨w, m, rfl, h.1.1, h.1.2, hm, h.2⟩

/-- PlStepPlacesOneCodeword and MicroStepsFollowPhases: each walk state, and an active walk at its first and at its last
codeword, with the codeword held and not held. -/
theorem witness_PlStepPlacesOneCodeword :
    ((sized 0).sizeClass? = some class0 ∧ (sized 0).walk.wstate = .idle) ∧
    (∃ s : State, s.sizeClass? = some class0 ∧ s.walk.wstate = .done) ∧
    (∃ s : State, s.sizeClass? = some class0 ∧ s.walk.wstate = .active ∧ s.WalkOk ∧ s.cwAt s.walk.chr = none) ∧
    (∃ s : State, s.sizeClass? = some class0 ∧ s.walk.wstate = .active ∧ s.WalkOk ∧ s.cwAt s.walk.chr = some 142 ∧
      s.walk.chr = 0) ∧
    ∃ s : State, s.sizeClass? = some class0 ∧ s.walk.wstate = .active ∧ s.WalkOk ∧ s.cwAt s.walk.chr = some 102 ∧
      s.walk.chr + 1 = class0.n := by
  obtain ⟨w, hw, h1, h2, h3⟩ := walk_before_last
  refine ⟨by decide, ⟨walking (some { Walk.start with wstate := .done }) (sized 0), by decide, by decide⟩,
    ⟨walking none (sized 0), by decide, by decide, walkOk_start (c := class0) (by decide) (by decide) rfl, by decide⟩,
    ⟨walking none digitsDone, by decide, by decide, walkOk_start (c := class0) (by decide) (by decide) rfl, by decide,
      by decide⟩, walking (some w) digitsDone, rfl, h1, ?_, ?_, ?_⟩
  · unfold State.WalkOk
    rw [show (walking (some w) digitsDone).walk = w from rfl, h1]
    exact ⟨class0, 10, rfl, hw, h2, by rw [h3]; decide⟩
  · rw [show (walking (some w) digitsDone).walk = w from rfl, h3]; rfl
  · rw [show (walking (some w) digitsDone).walk = w from rfl, h3]; rfl

/-- PL_STEP and PL_RUN answer next states (MicroStepsFollowPhases, PlRunEqualsSteppedWalk). -/
theorem witness_MicroStepsFollowPhases :
    (∃ t, exec .plStep (walking none digitsDone) = .next t ∧ (walking none digitsDone).WalkOk) ∧
    (∃ t, digitsDone.sizeClass? = some class0 ∧ exec .plRun digitsDone = .next t ∧ t.errCode = .none) ∧
    (∃ w : Walk, ∃ m, w.phase = .up ∧ w.mask = some m ∧ CursorFree class0 m w) ∧
    ∃ w : Walk, ∃ m, w.phase = .down ∧ w.mask = some m ∧ ¬ CursorFree class0 m w := by
  obtain ⟨t, ht, -⟩ := next_of_goes (r := exec .plStep (walking none digitsDone)) (p := fun _ => true)
    (by decide +kernel)
  obtain ⟨u, hu, pu⟩ := next_of_goes (r := exec .plRun digitsDone) (p := fun u => u.errCode == .none)
    (by decide +kernel)
  refine ⟨⟨t, ht, walkOk_start (c := class0) (by decide) (by decide) rfl⟩, ⟨u, by decide, hu, by simpa using pu⟩,
    ⟨{ Walk.start with phase := .up }, 0, rfl, rfl, ?_⟩, ⟨{ Walk.start with phase := .down, row := 8 }, 0, rfl, rfl, ?_⟩⟩
  · unfold CursorFree; decide +kernel
  · unfold CursorFree; decide +kernel

/-- LayoutsWrapAndPlacement: a placement that happens, one at CHR = N, and one on an assigned cell. -/
theorem witness_LayoutsWrapAndPlacement : class0 ∈ sizeRom ∧ (Walk.start.place class0 .nominal).isSome = true ∧
    class0.n ≤ ({ Walk.start with chr := 8 } : Walk).chr ∧
    (∃ cell ∈ layoutCells class0 .nominal 4 0, maskBit (setMask 0 4 0) cell.1 cell.2 = true) :=
  ⟨by decide, by decide +kernel, by decide, (4, 0), by decide +kernel, by decide +kernel⟩

theorem witness_PlRunPlacesWholeSymbol :
    (digitsDone.sizeClass? = some class0 ∧ CwHeld digitsDone class0.n) ∧
    (digits.sizeClass? = some class0 ∧ ¬ CwHeld digits class0.n) ∧
    isDataKey class0 (gridKey 1 1) = true ∧ isDataKey class0 (gridKey 0 0) = false :=
  ⟨⟨by decide, cwHeld_of_all (by decide)⟩, ⟨by decide, not_cwHeld (i := 7) (by decide) (by decide)⟩, by decide, by decide⟩

/-- PlFixupWritesCornerPattern: a walk not done; a finished walk with the corner assigned (class 0, where the last clause
applies) and not assigned (class 1). -/
theorem witness_PlFixupWritesCornerPattern :
    ((sized 0).sizeClass? = some class0 ∧ (sized 0).walk.wstate ≠ .done) ∧
    (∃ s : State, ∃ m, s.sizeClass? = some class0 ∧ s.walk.wstate = .done ∧ s.walk.mask = some m ∧
      maskBit m (class0.nrow - 1) (class0.ncol - 1) = true ∧ s.WalkOk ∧ s.sizeSel ≠ 1 ∧ s.sizeSel ≠ 3 ∧
      s.sizeSel ≠ 5 ∧ s.sizeSel ≠ 7) ∧
    ∃ s : State, ∃ m, s.sizeClass? = some class1 ∧ s.walk.wstate = .done ∧ s.walk.mask = some m ∧
      maskBit m (class1.nrow - 1) (class1.ncol - 1) = false := by
  obtain ⟨w, m, h1, h2, h3, h4, h5⟩ := walk_done class0 16 true (by decide +kernel)
  obtain ⟨w', m', h1', h2', h3', h4', h5'⟩ := walk_done class1 23 false (by decide +kernel)
  refine ⟨by decide, ⟨walking (some { w with wstate := .done }) (sized 0), m, rfl, rfl, h4, h5, ?_, ?_⟩,
    walking (some { w' with wstate := .done }) (sized 1), m', rfl, rfl, h4', h5'⟩
  · exact ⟨class0, 16, w, m, rfl, h1, h2, h3, h4, .inl rfl⟩
  · show (0 : BitVec 5) ≠ 1 ∧ (0 : BitVec 5) ≠ 3 ∧ (0 : BitVec 5) ≠ 5 ∧ (0 : BitVec 5) ≠ 7
    decide

/-- WalkDataPerClass, WalkPropertiesOfEveryClass, GapTranslationIsBijection: the first and last class, cells at the ends
of the mapping matrix, walks not at END and at END. -/
theorem witness_WalkDataPerClass : sizeRom[0]? = some class0 ∧ sizeRom[29]?.isSome = true ∧ class0 ∈ sizeRom ∧
    walkAfter class0 0 = some Walk.start ∧ Walk.start.phase ≠ .finish ∧
    (∃ w m, walkAfter class0 16 = some w ∧ w.phase = .finish ∧ w.mask = some m) ∧ 7 < class0.nrow ∧
    isDataKey class0 (gridKey 8 8) = true := by
  obtain ⟨w, m, h1, h2, h3, h4, h5⟩ := walk_done class0 16 true (by decide +kernel)
  exact ⟨by decide, by decide, by decide, rfl, by decide, ⟨w, m, h1, h2, h4⟩, by decide, by decide⟩

theorem witness_FinderAndWalkCommute : Memory.wf digitsDone.grid = true ∧
    ∃ t, CleanRun [.plFinder, .plRun] digitsDone t := by
  obtain ⟨u, hu, pu⟩ := next_of_goes (r := exec .plFinder digitsDone)
    (p := fun u => u.errCode == .none && goes (exec .plRun u) fun t => t.errCode == .none) (by decide +kernel)
  simp only [Bool.and_eq_true, beq_iff_eq] at pu
  obtain ⟨t, ht, pt⟩ := next_of_goes pu.2
  exact ⟨rfl, t, u, hu, pu.1, t, ht, by simpa using pt, rfl⟩

/-- SymbolEqualsItsParts and SymbolDependsOnClassAndDataOnly: data held and not held; two states that agree on the class
and the data only. -/
theorem witness_SymbolEqualsItsParts : digits.sizeClass? = some class0 ∧ CwHeld digits class0.d ∧
    ¬ CwHeld (sized 0) class0.d ∧ digitsDone.sizeSel = digits.sizeSel ∧
    (∀ i, i < class0.d → digitsDone.cwAt i = digits.cwAt i) ∧
    (∃ t, exec .symbol digits = .next t) ∧ ∃ t, exec .symbol digitsDone = .next t := by
  obtain ⟨t, ht, -⟩ := next_of_goes (r := exec .symbol digits) (p := fun _ => true) (by decide +kernel)
  obtain ⟨u, hu, -⟩ := next_of_goes (r := exec .symbol digitsDone) (p := fun _ => true) (by decide +kernel)
  exact ⟨by decide, cwHeld_of_all (by decide), not_cwHeld (i := 2) (by decide) (by decide), rfl, by decide,
    ⟨t, ht⟩, u, hu⟩

/-- ErrorsArePrecise, FirstErrorIsReported, CommandsKeepToTheirWriteSets, IrqIsEnabledDone: a command that ends with an
error, one that does not, and an illegal word. -/
theorem witness_ErrorsArePrecise : (∃ t, exec .plStep .reset = .next t ∧ t.errCode ≠ .none) ∧
    (∃ t, exec .nop { State.reset with ie := true } = .next t ∧ t.errCode = .none) ∧
    firstError .reset .plStep ≠ .none ∧
    (pend 0x06 .reset).pending = some 0x06 ∧ decode 0x06 = .error .unknownOp ∧
    ∃ t, engineStep (pend 0x06 .reset) = .next t ∧ t.errCode ≠ .none :=
  ⟨⟨_, rfl, by decide⟩, ⟨_, rfl, rfl⟩, by decide, rfl, by decide, _, rfl, by decide⟩

/-- CommandsKeepToTheirWriteSets: keys at the ends of RS_ENC's write set and of GRID. -/
theorem witness_CommandsKeepToTheirWriteSets : writesCw (some class0) .rsEnc 2 = false ∧
    writesCw (some class0) .rsEnc 3 = true ∧ writesCw (some class0) .rsEnc 7 = true ∧
    writesCw (some class0) .rsEnc 8 = false ∧ writesGrid (some class0) .plRun (gridKey 0 0) = false ∧
    writesGrid (some class0) .plFinder (gridKey 0 0) = true ∧ writesResult .nop = false ∧ writesGen .nop = false ∧
    writesWalk .nop = false ∧ writesFixed .plStep = false ∧ ∃ t, exec .rsEnc digits = .next t := by
  obtain ⟨t, ht, -⟩ := next_of_goes (r := exec .rsEnc digits) (p := fun _ => true) (by decide +kernel)
  exact ⟨by decide, by decide, by decide, by decide, by decide, by decide, rfl, rfl, rfl, rfl, t, ht⟩

/-- CommandSeesStateAtIssue: a host write while a command is pending, two states that differ in the status bits only, a
completing and a faulting engine step. -/
theorem witness_CommandSeesStateAtIssue : (pend 0 .reset).busy = true ∧
    NotSoftReset (.write 0x04000 .word 7) ∧ NotSoftReset (.write 0x00008 .word 1) ∧
    SameBlock { pend 0 State.reset with ovr := true } (pend 0 .reset) ∧
    (∃ t, engineStep (pend 0 .reset) = .next t) ∧
    engineStep (pend 0x11 (loaded 0 5 [])) = .fault .uninitRead := by
  refine ⟨rfl, ?_, ?_, ?_, ⟨_, rfl⟩, fault_of_stops (by decide +kernel)⟩
  · unfold NotSoftReset; decide
  · unfold NotSoftReset; decide
  · simp [SameBlock]

/-- DecodeAndEncodeAgree, DecodeFollowsOpcodeMap, SpecWordsDecodeAndAssemble. -/
theorem witness_DecodeAndEncodeAgree : (Instr.rsSyn 255).wf = true ∧ decode 0x0000FF13 = .ok (.rsSyn 255) ∧
    (∃ row ∈ opcodeMap, row.selects 0x0000FF13 = true) ∧ ∃ n ∈ [256], 256 ≤ n := by decide

/-- StepPerformsPendingCommand: each premise. -/
theorem witness_StepPerformsPendingCommand :
    (placeCommand 0x00 .reset).nextTurn = .engine ∧ (placeCommand 0x00 .reset).pending = some 0x00 ∧
    decode 0x00 = .ok .nop ∧ (placeCommand 0x06 .reset).nextTurn = .engine ∧ decode 0x06 = .error .unknownOp ∧
    ({ State.reset with turns := [.engine] } : State).nextTurn = .engine ∧ (pend 0 .reset).turns = [] ∧
    (pend 0 .reset).pending ≠ none ∧ State.reset.turns = [] ∧ State.reset.pending = none ∧
    decode (BitVec.ofNat 32 0x30) = .ok .symbol := by decide

/-- AddressMapIsExact, RefusedAccessSetsBusErr: the ends of the windows, each kind of refused access. -/
theorem witness_AddressMapIsExact : Listed (.cw 2177) ∧ Listed (.grid 143 143) ∧ Listed (.geom 3) ∧
    accept 0x00000 .word = some .id ∧ ¬ Writable .id ∧ Width.half ≠ .word ∧ (0x00002 : Addr).toNat % 4 ≠ 0 ∧
    ∀ l, Listed l → addressOf l ≠ (0x00038 : Addr).toNat := by
  refine ⟨by simp [Listed], by simp [Listed], by simp [Listed], by decide, by simp [Writable], by decide, by decide, ?_⟩
  intro l hl
  cases l <;> simp [Listed, addressOf] at hl ⊢ <;> omega

/-- BusyReadsAreDrawsAndWritesDropped: a drawn and a defined location, and a dropped write, while busy. -/
theorem witness_BusyReadsAreDrawsAndWritesDropped : (pend 0 .reset).busy = true ∧
    accept 0x04000 .word = some (.cw 0) ∧ Drawn (.cw 0) ∧ accept 0x00004 .word = some .status ∧ ¬ Drawn .status ∧
    accept 0x0000C .word = some .cmd ∧ accept 0x43E3C .word = some (.grid 143 143) := by
  refine ⟨rfl, by decide, by simp [Drawn], by decide, by simp [Drawn], by decide, by decide⟩

/-- ReadsHaveNoSideEffect, CmdWriteIssues, SizeWriteEndsWalk, DataWindowsHoldWhatIsWritten: an idle block. -/
theorem witness_ReadsHaveNoSideEffect : State.reset.busy = false ∧ accept 0x00014 .word = some .size ∧
    State.reset.held .size = some 0 ∧ ((29 : Word).extractLsb' 0 5).toNat < 30 ∧ (sized 30).sizeClass? = none ∧
    2177 < 2178 ∧ 143 < 144 := by decide

/-- CtrlWriteAndSoftReset, IrqIsEnabledDone: a write without and with SRST, idle and with a command pending; the reset
input's turn. -/
theorem witness_CtrlWriteAndSoftReset : (1 : Word).getLsbD 1 = false ∧ (2 : Word).getLsbD 1 = true ∧
    State.reset.pendingInstr = none ∧ (pend 0x30 .reset).pendingInstr = some .symbol ∧
    ({ State.reset with turns := [.pinReset] } : State).nextTurn = .pinReset ∧ (0 : Word).getLsbD 0 = false := by decide

/-- SizeRomRowsAndGeomRegisters, ResetValues, WalkRegisterViews: ends of the ranges. -/
theorem witness_SizeRomRowsAndGeomRegisters : (sized 0).sizeClass? = some class0 ∧ class23 ∈ sizeRom ∧
    29 < (sized 30).sizeSel.toNat ∧ 68 < 69 ∧ 67 < 68 ∧
    ({ Walk.start with row := -1, col := 135, lastRow := 140, chr := 2178 } : Walk).InRange := by
  refine ⟨by decide, by decide, by decide, by decide, by decide, ?_⟩
  unfold Walk.InRange; decide

/-- The reset state with a command pending and the generator of degree 5 meets the invariant. -/
theorem inv_pend (w : Word) (m : Memory) (h : cwOk m = true) : (pend w { loaded 0 5 [] with cw := m }).Inv := by
  refine ⟨h, rfl, ⟨show (5 : BitVec 7).toNat ≤ 68 by decide, rfl⟩, ?_, trivial⟩
  intro v hv
  exact Option.some.inj hv

/-- EveryStepKeepsInvariant, EveryStepKeepsWalkRegistersInRange, OnlyUninitReadCanFault: a state with the invariant that
steps, and one that faults. -/
theorem witness_EveryStepKeepsInvariant :
    (∃ s t : State, s.Inv ∧ s.walk.InRange ∧ step s = .next t) ∧ ∃ s : State, s.Inv ∧ step s = .fault .uninitRead := by
  refine ⟨⟨_, _, inv_pend 0x00 [] rfl, by unfold Walk.InRange; decide, rfl⟩, _, inv_pend 0x11 [] rfl, ?_⟩
  exact fault_of_stops (by decide +kernel)

/-- A codeword buffer with every codeword held. -/
theorem full_buffer : ∃ m : Memory, cwOk m = true ∧ ∀ i, i < 2178 → Memory.read m i = some 0 := by
  have hm : ∀ n, Memory.wf ((List.range n).map fun i => (i, (0 : Byte))) = true := by
    intro n
    rw [Memory.wf_iff_pairwise, List.map_map]
    simpa [Function.comp_def] using List.pairwise_lt_range
  refine ⟨_, ?_, fun i hi => Memory.read_of_mem (hm 2178) (List.mem_map.2 ⟨i, List.mem_range.2 hi, rfl⟩)⟩
  rw [cwOk, hm, Bool.true_and, List.all_map, List.all_eq_true]
  exact fun x hx => decide_eq_true (List.mem_range.1 hx)

/-- OnlyUninitReadCanFault: a state with the invariant and the whole codeword buffer held. -/
theorem witness_OnlyUninitReadCanFault : ∃ s : State, s.Inv ∧ CwHeld s 2178 := by
  obtain ⟨m, h, hr⟩ := full_buffer
  refine ⟨_, inv_pend 0x30 m h, fun i hi => ?_⟩
  show (Memory.read m i).isSome = true
  rw [hr i hi]; rfl

end Sys2Proof.Tests
end

section
/-! PROOFS, the state (spec/10_state.md). The general layer: what a command performs, what it leaves alone, and the
parts of the invariant. -/

namespace Sys2Proof.Machine

/-! ### The size table -/

/-- The bounds and parities of the size table that the walk and the grid rest on (R46, R47). -/
theorem sizeRom_bounds : ∀ c ∈ sizeRom, 2 ≤ c.nrow ∧ c.nrow ≤ 132 ∧ 2 ≤ c.ncol ∧ c.ncol ≤ 132 ∧ c.ncol % 2 = 0 ∧
    0 < c.n ∧ c.n ≤ Config.cwSize ∧ c.n = c.d + c.b * c.s ∧ 1 ≤ c.s ∧ c.s ≤ Config.maxS ∧
    c.w ≤ Config.gridDim ∧ c.h ≤ Config.gridDim := by decide

/-- How the symbol is cut into regions (R46). -/
theorem sizeRom_regions : ∀ c ∈ sizeRom, c.w = c.rx * (c.rw + 2) ∧ c.h = c.ry * (c.rh + 2) ∧
    c.ncol = c.rx * c.rw ∧ c.nrow = c.ry * c.rh := by decide

/-! ### What a command performs -/

/-- The part of the state that no command writes before it completes: everything outside ZERO, FIXED, RESULT, GEN_S,
GEN, REM, SYN, CW, GRID and the walk (R87). -/
def State.outside (s : State) : State :=
  { s with zero := false, fixed := false, result := 0, genS := 0, gen := Vector.replicate 69 0,
           rem := Vector.replicate 68 0, syn := Vector.replicate 68 0, cw := [], grid := [], walk := Walk.reset }

/-- `u` is what command `i` has made of `s` when its checks have passed, before it completes. -/
def Performs (i : Instr) (s u : State) : Prop :=
  match i with
  | .nop => u = s
  | .gfAdd _ _ | .gfMul _ _ | .gfDiv _ _ | .gfExp _ | .gfLog _ => ∃ v, u = s.setResult v
  | .rsGen n => (1 ≤ n ∧ n ≤ Config.maxS) ∧ u = rsGenBody n s
  | .rsEnc => ∃ c, s.sizeClass? = some c ∧ s.genS.toNat = c.s ∧ rsEncBody c s = .next u
  | .rsRem _ => ∃ r z, u = s.setRem r z
  | .rsSyn _ => ∃ y z, u = s.setSyn y z
  | .plClear => u = plClearBody s
  | .plFinder => ∃ c, s.sizeClass? = some c ∧ u = plFinderBody c s
  | .plStart => ∃ c, s.sizeClass? = some c ∧ u = plStartBody s
  | .plStep => ∃ c, s.sizeClass? = some c ∧ s.walk.wstate = .active ∧ plStepBody c s = .next u
  | .plRun => ∃ c, s.sizeClass? = some c ∧ plRunBody c s = .next u
  | .plFixup => ∃ c, s.sizeClass? = some c ∧ s.walk.wstate = .done ∧ plFixupBody c s = .next u
  | .symbol => ∃ c u1, s.sizeClass? = some c ∧ rsEncBody c (rsGenBody c.s s) = .next u1 ∧
      plRunBody c (plFinderBody c (plClearBody u1)) = .next u

/-- A command either ends with an error or performs its body and completes. -/
def Ends (i : Instr) (s t : State) : Prop :=
  (∃ e, raiseError e s = .next t) ∨ ∃ u, Performs i s u ∧ t = complete u

theorem withClass_eq_next {s t : State} {f : SizeClass → Result} (h : withClass s f = .next t) :
    (∃ e, raiseError e s = .next t) ∨ ∃ c, s.sizeClass? = some c ∧ f c = .next t := by
  rcases withClass_cases s f with ⟨_, hw⟩ | ⟨c, hc, hw⟩
  · exact .inl ⟨_, hw.symm.trans h⟩
  · exact .inr ⟨c, hc, hw.symm.trans h⟩

theorem withBlock_eq_next {k : Nat} {s t : State} {f : SizeClass → List Byte → Result}
    (h : withBlock k s f = .next t) : (∃ e, raiseError e s = .next t) ∨ ∃ c cs, f c cs = .next t := by
  rcases withBlock_cases k s f with ⟨_, hw⟩ | ⟨c, _, ⟨_, hw⟩ | ⟨_, _, hw⟩ | ⟨_, _, _, hw⟩ | ⟨cs, _, _, _, hw⟩⟩
  · exact .inl ⟨_, hw.symm.trans h⟩
  · exact .inl ⟨_, hw.symm.trans h⟩
  · exact .inl ⟨_, hw.symm.trans h⟩
  · cases hw.symm.trans h
  · exact .inr ⟨c, cs, hw.symm.trans h⟩

theorem andThen_succeed_eq_next {r : Result} {t : State} (h : andThen r succeed = .next t) :
    ∃ u, r = .next u ∧ t = complete u := by
  obtain ⟨u, hr, hu⟩ := andThen_eq_next.1 h
  exact ⟨u, hr, succeed_eq_next.1 hu⟩

/-- All that a command that answers a next state can have done. -/
theorem exec_eq_next {i : Instr} {s t : State} (h : exec i s = .next t) : Ends i s t := by
  cases i with
  | nop => exact .inr ⟨s, rfl, succeed_eq_next.1 h⟩
  | gfAdd a b => exact .inr ⟨_, ⟨_, rfl⟩, succeed_eq_next.1 h⟩
  | gfMul a b => exact .inr ⟨_, ⟨_, rfl⟩, succeed_eq_next.1 h⟩
  | gfDiv a b =>
    simp only [exec, execGfDiv] at h
    split at h
    · exact .inl ⟨_, h⟩
    · exact .inr ⟨_, ⟨_, rfl⟩, succeed_eq_next.1 h⟩
  | gfExp e => exact .inr ⟨_, ⟨_, rfl⟩, succeed_eq_next.1 h⟩
  | gfLog a =>
    simp only [exec, execGfLog] at h
    split at h
    · exact .inl ⟨_, h⟩
    · exact .inr ⟨_, ⟨_, rfl⟩, succeed_eq_next.1 h⟩
  | rsGen n =>
    simp only [exec, execRsGen] at h
    split at h
    · next hn => exact .inr ⟨_, ⟨hn, rfl⟩, succeed_eq_next.1 h⟩
    · exact .inl ⟨_, h⟩
  | rsEnc =>
    rcases withClass_eq_next h with he | ⟨c, hc, h⟩
    · exact .inl he
    split at h
    · exact .inl ⟨_, h⟩
    · next hg =>
      obtain ⟨u, hu, ht⟩ := andThen_succeed_eq_next h
      exact .inr ⟨u, ⟨c, hc, not_not.1 hg, hu⟩, ht⟩
  | rsRem k =>
    rcases withBlock_eq_next h with he | ⟨c, cs, h⟩
    · exact .inl he
    · exact .inr ⟨_, ⟨_, _, rfl⟩, succeed_eq_next.1 h⟩
  | rsSyn k =>
    rcases withBlock_eq_next h with he | ⟨c, cs, h⟩
    · exact .inl he
    · exact .inr ⟨_, ⟨_, _, rfl⟩, succeed_eq_next.1 h⟩
  | plClear => exact .inr ⟨_, rfl, succeed_eq_next.1 h⟩
  | plFinder =>
    rcases withClass_eq_next h with he | ⟨c, hc, h⟩
    · exact .inl he
    · exact .inr ⟨_, ⟨c, hc, rfl⟩, succeed_eq_next.1 h⟩
  | plStart =>
    rcases withClass_eq_next h with he | ⟨c, hc, h⟩
    · exact .inl he
    · exact .inr ⟨_, ⟨c, hc, rfl⟩, succeed_eq_next.1 h⟩
  | plStep =>
    rcases withClass_eq_next h with he | ⟨c, hc, h⟩
    · exact .inl he
    split at h
    · exact .inl ⟨_, h⟩
    · exact .inl ⟨_, h⟩
    · next hw =>
      obtain ⟨u, hu, ht⟩ := andThen_succeed_eq_next h
      exact .inr ⟨u, ⟨c, hc, hw, hu⟩, ht⟩
  | plRun =>
    rcases withClass_eq_next h with he | ⟨c, hc, h⟩
    · exact .inl he
    obtain ⟨u, hu, ht⟩ := andThen_succeed_eq_next h
    exact .inr ⟨u, ⟨c, hc, hu⟩, ht⟩
  | plFixup =>
    rcases withClass_eq_next h with he | ⟨c, hc, h⟩
    · exact .inl he
    split at h
    · exact .inl ⟨_, h⟩
    · next hw =>
      obtain ⟨u, hu, ht⟩ := andThen_succeed_eq_next h
      exact .inr ⟨u, ⟨c, hc, not_not.1 hw, hu⟩, ht⟩
  | symbol =>
    rcases withClass_eq_next h with he | ⟨c, hc, h⟩
    · exact .inl he
    obtain ⟨u1, h1, h⟩ := andThen_eq_next.1 h
    obtain ⟨u, hu, ht⟩ := andThen_succeed_eq_next h
    exact .inr ⟨u, ⟨c, u1, hc, h1, hu⟩, ht⟩

/-! ### The frame of the bodies -/

section Outside

variable {c : SizeClass} {s t : State}

theorem ie_of_outside (h : t.outside = s.outside) : t.ie = s.ie := show t.outside.ie = s.outside.ie by rw [h]

theorem sizeClass_of_outside (h : t.outside = s.outside) : t.sizeClass? = s.sizeClass? :=
  show t.outside.sizeClass? = s.outside.sizeClass? by rw [h]

theorem rsEncBody_outside (h : rsEncBody c s = .next t) : t.outside = s.outside := by
  rcases rsEncBody_cases c s with ⟨_, he⟩ | ⟨ws, _, he⟩
  · cases he.symm.trans h
  · cases he.symm.trans h; rfl

theorem microStep_outside (h : microStep c s = .next t) : t.outside = s.outside := by
  rcases microStep_cases c s with ⟨_, he⟩ | ⟨w, _, _, he⟩ | ⟨w, l, _, _, _, he⟩ | ⟨w, l, v, _, _, _, he⟩
  · cases he.symm.trans h
  · cases he.symm.trans h; rfl
  · cases he.symm.trans h
  · cases he.symm.trans h; rfl

theorem repeatUntil_outside {stop : Walk → Bool} {n : Nat} (h : repeatUntil c stop n s = .next t) :
    t.outside = s.outside :=
  (repeatUntil_invariant (fun u => u.outside = s.outside) (fun _ _ hu hm => (microStep_outside hm).trans hu) rfl h).1

theorem endWalk_outside (h : endWalk c s = .next t) : t.outside = s.outside := by
  obtain ⟨_, rfl⟩ := endWalk_eq_next.1 h
  rfl

theorem plFixupBody_outside (h : plFixupBody c s = .next t) : t.outside = s.outside := by
  rcases plFixupBody_cases c s with ⟨_, he⟩ | ⟨m, _, ⟨_, he⟩ | ⟨_, he⟩⟩
  · cases he.symm.trans h
  · cases he.symm.trans h; rfl
  · cases he.symm.trans h; rfl

/-- What PL_STEP does, taken apart: to the next codeword, then to END after the last one, then the end of the walk. -/
theorem plStepBody_eq_next : plStepBody c s = .next t ↔
    ∃ s1 s2, repeatUntil c (fun w => w.chr == s.walk.chr + 1 || w.atEnd) s.walkBound s = .next s1 ∧
      (if s1.walk.chr = c.n then repeatUntil c Walk.atEnd s1.walkBound s1 = .next s2 else s2 = s1) ∧
      (if s2.walk.atEnd = true then endWalk c s2 = .next t else t = s2) := by
  simp only [plStepBody, andThen_eq_next]
  refine exists_congr fun s1 => ?_
  rw [← exists_and_left]
  refine exists_congr fun s2 => and_congr_right fun _ => ?_
  split <;> split <;> simp [eq_comm]

theorem plRunBody_eq_next : plRunBody c s = .next t ↔
    ∃ s1 s2, repeatUntil c Walk.atEnd s.walkBound (plStartBody s) = .next s1 ∧ endWalk c s1 = .next s2 ∧
      plFixupBody c s2 = .next t := by
  simp only [plRunBody, andThen_eq_next]
  exact exists_congr fun s1 => by rw [← exists_and_left]

theorem plStepBody_outside (h : plStepBody c s = .next t) : t.outside = s.outside := by
  obtain ⟨s1, s2, h1, h2, h3⟩ := plStepBody_eq_next.1 h
  have e1 := repeatUntil_outside h1
  have e2 : s2.outside = s1.outside := by
    split at h2
    · exact repeatUntil_outside h2
    · rw [h2]
  have e3 : t.outside = s2.outside := by
    split at h3
    · exact endWalk_outside h3
    · rw [h3]
  exact e3.trans (e2.trans e1)

theorem plRunBody_outside (h : plRunBody c s = .next t) : t.outside = s.outside := by
  obtain ⟨s1, s2, h1, h2, h3⟩ := plRunBody_eq_next.1 h
  have hstart : (plStartBody s).outside = s.outside := rfl
  rw [plFixupBody_outside h3, endWalk_outside h2, repeatUntil_outside h1, hstart]

end Outside

/-- No command writes outside its bodies' fields before it completes. -/
theorem performs_outside {i : Instr} {s u : State} (h : Performs i s u) : u.outside = s.outside := by
  cases i with
  | nop => rw [show u = s from h]
  | gfAdd | gfMul | gfDiv | gfExp | gfLog => obtain ⟨v, rfl⟩ := h; rfl
  | rsGen n => rw [h.2]; rfl
  | rsEnc => obtain ⟨c, _, _, h⟩ := h; exact rsEncBody_outside h
  | rsRem | rsSyn => obtain ⟨v, z, rfl⟩ := h; rfl
  | plClear => rw [show u = _ from h]; rfl
  | plFinder | plStart => obtain ⟨c, _, rfl⟩ := h; rfl
  | plStep => obtain ⟨c, _, _, h⟩ := h; exact plStepBody_outside h
  | plRun => obtain ⟨c, _, h⟩ := h; exact plRunBody_outside h
  | plFixup => obtain ⟨c, _, _, h⟩ := h; exact plFixupBody_outside h
  | symbol =>
    obtain ⟨c, u1, _, h1, h⟩ := h
    have hgen : (rsGenBody c.s s).outside = s.outside := rfl
    have hclear : (plFinderBody c (plClearBody u1)).outside = u1.outside := rfl
    rw [plRunBody_outside h, hclear, rsEncBody_outside h1, hgen]

/-- Every command that answers completes: DONE is 1, PENDING is empty, IE is kept (R210, R213). -/
theorem exec_completes {i : Instr} {s t : State} (h : exec i s = .next t) :
    t.done = true ∧ t.pending = none ∧ t.ie = s.ie := by
  rcases exec_eq_next h with ⟨e, he⟩ | ⟨u, hu, rfl⟩
  · rw [raiseError_eq_next] at he; subst he; exact ⟨rfl, rfl, rfl⟩
  · have hie := ie_of_outside (performs_outside hu)
    exact ⟨rfl, rfl, hie⟩

end Sys2Proof.Machine
end

section
/-! PROOFS, the state: the invariant of the machine and the ranges of the walk registers. -/

namespace Sys2Proof.Machine

/-! ### Canonical memories with a property of every cell -/

/-- The memory is canonical and each of its cells has the property: the common form of `cwOk` and `gridOk`. -/
def Memory.okFor (p : Host.Cell → Bool) (m : Memory) : Bool := Memory.wf m && m.all p

theorem Memory.okFor_iff {p : Host.Cell → Bool} {m : Memory} :
    Memory.okFor p m = true ↔ Memory.wf m = true ∧ ∀ cell ∈ m, p cell = true := by
  simp [Memory.okFor]

theorem Memory.okFor_writeAll {p : Host.Cell → Bool} {m : Memory} {cells : List Host.Cell}
    (hm : Memory.okFor p m = true) (hc : ∀ cell ∈ cells, p cell = true) :
    Memory.okFor p (Memory.writeAll m cells) = true := by
  obtain ⟨hwf, hall⟩ := Memory.okFor_iff.1 hm
  exact Memory.okFor_iff.2 ⟨Memory.wf_writeAll m cells hwf,
    fun cell hcell => (Memory.mem_writeAll hcell).elim (hc cell) (hall cell)⟩

theorem Memory.okFor_write {p : Host.Cell → Bool} {m : Memory} {k : Nat} {v : Byte}
    (hm : Memory.okFor p m = true) (hc : p (k, v) = true) : Memory.okFor p (Memory.write m k v) = true :=
  Memory.okFor_writeAll (cells := [(k, v)]) hm (by simpa using hc)

theorem Memory.okFor_forget {p : Host.Cell → Bool} {m : Memory} (gone : Nat → Bool)
    (hm : Memory.okFor p m = true) : Memory.okFor p (Memory.forget m gone) = true := by
  obtain ⟨hwf, hall⟩ := Memory.okFor_iff.1 hm
  exact Memory.okFor_iff.2 ⟨Memory.wf_forget m gone hwf, fun cell hcell => hall cell (List.mem_of_mem_filter hcell)⟩

/-- A cell that the codeword buffer may hold (R37). -/
def isCwCell (cell : Host.Cell) : Bool := decide (cell.1 < Config.cwSize)

/-- A cell that the grid may hold (R38). -/
def isGridCell (cell : Host.Cell) : Bool := isGridKey cell.1 && (cell.2 == 0 || cell.2 == 1)

theorem cwOk_eq (m : Memory) : cwOk m = Memory.okFor isCwCell m := rfl

theorem gridOk_eq (m : Memory) : gridOk m = Memory.okFor isGridCell m := rfl

theorem isGridCell_bitByte {key : Nat} (h : isGridKey key = true) (b : Bool) : isGridCell (key, bitByte b) = true := by
  cases b <;> simp [isGridCell, h, bitByte]

theorem isGridKey_gridKey {x y : Nat} (hx : x < Config.gridDim) (hy : y < Config.gridDim) :
    isGridKey (gridKey x y) = true := by
  simp only [Config.gridDim] at hx hy
  refine Bool.and_eq_true_iff.2 ⟨decide_eq_true ?_, decide_eq_true ?_⟩ <;> simp only [gridKey, Config.gridDim] <;> omega

/-! ### The cells that commands write -/

theorem inMatrix_iff {c : SizeClass} {r k : Int} :
    inMatrix c r k = true ↔ (0 ≤ r ∧ r < c.nrow) ∧ 0 ≤ k ∧ k < c.ncol := by
  simp [inMatrix, and_assoc]

/-- The gap translation leads from the interior of `q` regions of length `len` into their whole length (R154). -/
theorem gap_lt {q len k : Nat} (hk : k < q * len) : k + 2 * (k / len) + 1 < q * (len + 2) := by
  have hq : k / len < q := Nat.div_lt_of_lt_mul (by rwa [Nat.mul_comm])
  rw [Nat.mul_add]
  omega

/-- The module of a mapping-matrix cell is a grid cell (R154). -/
theorem isGridKey_cellKey {c : SizeClass} (hc : c ∈ sizeRom) {cell : MapCell} (h : inMatrix c cell.1 cell.2 = true) :
    isGridKey (cellKey c cell) = true := by
  obtain ⟨hr, hk⟩ := inMatrix_iff.1 h
  obtain ⟨hw, hh, hncol, hnrow⟩ := sizeRom_regions c hc
  obtain ⟨-, -, -, -, -, -, -, -, -, -, hW, hH⟩ := sizeRom_bounds c hc
  refine isGridKey_gridKey (lt_of_lt_of_le ?_ hW) (lt_of_lt_of_le ?_ hH)
  · rw [hw]; exact gap_lt (by omega)
  · rw [hh]; exact gap_lt (by omega)

theorem assignCells_inMatrix {c : SizeClass} {m m' : MaskBits} {cells : List MapCell}
    (h : assignCells c m cells = some m') : ∀ cell ∈ cells, inMatrix c cell.1 cell.2 = true := by
  induction cells generalizing m with
  | nil => simp
  | cons cell rest ih =>
    obtain ⟨hin, _, hrest⟩ := assignCells_cons.1 h
    exact List.forall_mem_cons.2 ⟨hin, ih hrest⟩

theorem isGridCell_placeWrites {c : SizeClass} (hc : c ∈ sizeRom) {cells : List MapCell} {v : Byte}
    (h : ∀ cell ∈ cells, inMatrix c cell.1 cell.2 = true) : ∀ w ∈ placeWrites c cells v, isGridCell w = true := by
  intro w hw
  rw [placeWrites, ← List.map_uncurry_zip_eq_zipWith, List.mem_map] at hw
  obtain ⟨⟨cell, j⟩, hmem, rfl⟩ := hw
  exact isGridCell_bitByte (isGridKey_cellKey hc (h cell (List.of_mem_zip hmem).1)) _

theorem isGridCell_fixupWrites {c : SizeClass} (hc : c ∈ sizeRom) : ∀ w ∈ fixupWrites c, isGridCell w = true := by
  obtain ⟨hrow, -, hcol, -⟩ := sizeRom_bounds c hc
  intro w hw
  obtain ⟨p, hp, rfl⟩ := List.mem_map.1 hw
  refine isGridCell_bitByte (isGridKey_cellKey hc (inMatrix_iff.2 ?_)) _
  simp only [fixupCells, List.mem_cons, List.not_mem_nil, or_false] at hp
  rcases hp with rfl | rfl | rfl | rfl <;> dsimp only <;> omega

theorem isGridCell_finderWrites {c : SizeClass} (hc : c ∈ sizeRom) : ∀ w ∈ finderWrites c, isGridCell w = true := by
  obtain ⟨-, -, -, -, -, -, -, -, -, -, hW, hH⟩ := sizeRom_bounds c hc
  intro w hw
  simp only [finderWrites, List.mem_flatMap, List.mem_filterMap, List.mem_range, Option.map_eq_some_iff] at hw
  obtain ⟨y, hy, x, hx, b, -, rfl⟩ := hw
  exact isGridCell_bitByte (isGridKey_gridKey (lt_of_lt_of_le hx hW) (lt_of_lt_of_le hy hH)) b

theorem gridOk_clearedGrid : gridOk clearedGrid = true := by
  refine (gridOk_eq _).trans (Memory.okFor_iff.2 ⟨wf_clearedGrid, fun w hw => ?_⟩)
  simp only [clearedGrid, List.mem_flatMap, List.mem_map, List.mem_range] at hw
  obtain ⟨y, hy, x, hx, rfl⟩ := hw
  exact isGridCell_bitByte (isGridKey_gridKey hx hy) false

/-- The correction codewords of a block stand below N (R48, R125). -/
theorem eccIndices_lt {c : SizeClass} (hc : c ∈ sizeRom) {k : Nat} (hk : k < c.b) {j : Nat} (hj : j ∈ eccIndices c k) :
    j < Config.cwSize := by
  obtain ⟨-, -, -, -, -, -, hN, hn, -⟩ := sizeRom_bounds c hc
  obtain ⟨i, hi, rfl⟩ := List.mem_map.1 hj
  have hi : i + 1 ≤ c.s := List.mem_range.1 hi
  have hmul : (i + 1) * c.b ≤ c.s * c.b := Nat.mul_le_mul_right _ hi
  rw [Nat.add_mul, Nat.mul_comm c.s] at hmul
  omega

theorem isCwCell_encodeWrites {c : SizeClass} (hc : c ∈ sizeRom) {g : List Byte} {cw : Memory} {ks : List Nat}
    {ws : List Host.Cell} (hks : ∀ k ∈ ks, k < c.b) (h : encodeWrites c g cw ks = some ws) :
    ∀ w ∈ ws, isCwCell w = true := by
  induction ks generalizing ws with
  | nil => cases h; simp
  | cons k ks ih =>
    obtain ⟨hk, hks⟩ := List.forall_mem_cons.1 hks
    obtain ⟨block, rest, hblock, hrest, rfl⟩ := encodeWrites_cons_eq_some.1 h
    rw [blockWrites, Option.map_eq_some_iff] at hblock
    obtain ⟨ds, -, rfl⟩ := hblock
    intro w hw
    rcases List.mem_append.1 hw with hw | hw
    · exact decide_eq_true (eccIndices_lt hc hk (List.of_mem_zip hw).1)
    · exact ih hks hrest w hw

/-! ### The invariant of the registers and memories -/

/-- The part of the invariant that does not speak of the walk. -/
def State.StoreOk (s : State) : Prop := cwOk s.cw = true ∧ gridOk s.grid = true ∧ s.GenOk ∧ s.PendingOk

theorem inv_iff {s : State} : s.Inv ↔ s.StoreOk ∧ s.WalkOk := by
  simp only [State.Inv, State.StoreOk, and_assoc]

section StoreOk

variable {c : SizeClass} {s t : State}

theorem storeOk_setCw (hs : s.StoreOk) {m : Memory} (hm : cwOk m = true) : (s.setCw m).StoreOk := ⟨hm, hs.2⟩

theorem storeOk_setGrid (hs : s.StoreOk) {m : Memory} (hm : gridOk m = true) : (s.setGrid m).StoreOk :=
  ⟨hs.1, hm, hs.2.2⟩

theorem storeOk_writeGrid (hs : s.StoreOk) {cells : List Host.Cell} (h : ∀ w ∈ cells, isGridCell w = true) :
    (s.setGrid (Memory.writeAll s.grid cells)).StoreOk :=
  storeOk_setGrid hs (Memory.okFor_writeAll hs.2.1 h)

/-- This part of the invariant reads CW, GRID, GEN_S, GEN, CMD and PENDING only. -/
theorem storeOk_congr (hs : s.StoreOk) (hcw : t.cw = s.cw) (hgrid : t.grid = s.grid) (hgenS : t.genS = s.genS)
    (hgen : t.gen = s.gen) (hp : t.PendingOk) : t.StoreOk := by
  obtain ⟨h1, h2, h3, -⟩ := hs
  exact ⟨hcw ▸ h1, hgrid ▸ h2, by rwa [State.GenOk, hgenS, hgen], hp⟩

theorem pendingOk_of_none (h : t.pending = none) : t.PendingOk := fun w hw => by rw [h] at hw; cases hw

theorem storeOk_complete (hs : s.StoreOk) : (complete s).StoreOk :=
  storeOk_congr hs rfl rfl rfl rfl (pendingOk_of_none rfl)

theorem storeOk_raiseError (hs : s.StoreOk) {e : ErrCode} (h : raiseError e s = .next t) : t.StoreOk := by
  rw [raiseError_eq_next] at h
  subst h
  exact storeOk_congr hs rfl rfl rfl rfl (pendingOk_of_none rfl)

theorem storeOk_rsGenBody {n : Nat} (hs : s.StoreOk) (h1 : 1 ≤ n) (h2 : n ≤ Config.maxS) : (rsGenBody n s).StoreOk := by
  obtain ⟨hcw, hgrid, -, hp⟩ := hs
  have hn : (BitVec.ofNat 7 n).toNat = n := by
    rw [BitVec.toNat_ofNat]; exact Nat.mod_eq_of_lt (lt_of_le_of_lt h2 (by decide))
  refine ⟨hcw, hgrid, ⟨show (BitVec.ofNat 7 n).toNat ≤ _ from hn.symm ▸ h2, ?_⟩, hp⟩
  show generatorArray n = if (BitVec.ofNat 7 n).toNat = 0 then _ else generatorArray (BitVec.ofNat 7 n).toNat
  rw [hn, if_neg (by omega)]

theorem storeOk_rsEncBody (hc : c ∈ sizeRom) (hs : s.StoreOk) (h : rsEncBody c s = .next t) : t.StoreOk := by
  rcases rsEncBody_cases c s with ⟨_, he⟩ | ⟨ws, hws, he⟩
  · cases he.symm.trans h
  · cases he.symm.trans h
    exact storeOk_setCw hs
      (Memory.okFor_writeAll hs.1 (isCwCell_encodeWrites hc (fun k hk => List.mem_range.1 hk) hws))

theorem storeOk_microStep (hc : c ∈ sizeRom) (hs : s.StoreOk) (h : microStep c s = .next t) : t.StoreOk := by
  rcases microStep_cases c s with ⟨_, he⟩ | ⟨w, _, _, he⟩ | ⟨w, l, _, _, _, he⟩ | ⟨w, l, v, hw, hl, _, he⟩
  · cases he.symm.trans h
  · cases he.symm.trans h; exact hs
  · cases he.symm.trans h
  · cases he.symm.trans h
    obtain ⟨_, ⟨hnone, _⟩ | ⟨l', w1, hl', hplace, _⟩⟩ := walk_microStep_eq_some.1 hw
    · cases hl.symm.trans hnone
    · cases hl.symm.trans hl'
      obtain ⟨_, m, m', _, hassign, _⟩ := place_eq_some.1 hplace
      exact storeOk_writeGrid hs (isGridCell_placeWrites hc (assignCells_inMatrix hassign))

theorem storeOk_repeatUntil {stop : Walk → Bool} {n : Nat} (hc : c ∈ sizeRom) (hs : s.StoreOk)
    (h : repeatUntil c stop n s = .next t) : t.StoreOk :=
  (repeatUntil_invariant State.StoreOk (fun _ _ hu hm => storeOk_microStep hc hu hm) hs h).1

theorem storeOk_endWalk (hs : s.StoreOk) (h : endWalk c s = .next t) : t.StoreOk := by
  obtain ⟨_, rfl⟩ := endWalk_eq_next.1 h
  exact hs

theorem storeOk_plFixupBody (hc : c ∈ sizeRom) (hs : s.StoreOk) (h : plFixupBody c s = .next t) : t.StoreOk := by
  rcases plFixupBody_cases c s with ⟨_, he⟩ | ⟨m, _, ⟨_, he⟩ | ⟨_, he⟩⟩
  · cases he.symm.trans h
  · cases he.symm.trans h; exact hs
  · cases he.symm.trans h; exact storeOk_writeGrid hs (isGridCell_fixupWrites hc)

theorem storeOk_plStepBody (hc : c ∈ sizeRom) (hs : s.StoreOk) (h : plStepBody c s = .next t) : t.StoreOk := by
  obtain ⟨s1, s2, h1, h2, h3⟩ := plStepBody_eq_next.1 h
  have hs1 := storeOk_repeatUntil hc hs h1
  have hs2 : s2.StoreOk := by
    split at h2
    · exact storeOk_repeatUntil hc hs1 h2
    · exact h2 ▸ hs1
  split at h3
  · exact storeOk_endWalk hs2 h3
  · exact h3 ▸ hs2

theorem storeOk_plRunBody (hc : c ∈ sizeRom) (hs : s.StoreOk) (h : plRunBody c s = .next t) : t.StoreOk := by
  obtain ⟨s1, s2, h1, h2, h3⟩ := plRunBody_eq_next.1 h
  have hstart : (plStartBody s).StoreOk := hs
  exact storeOk_plFixupBody hc (storeOk_endWalk (storeOk_repeatUntil hc hstart h1) h2) h3

theorem storeOk_performs {i : Instr} (hs : s.StoreOk) (h : Performs i s t) : t.StoreOk := by
  cases i with
  | nop => exact (show t = s from h) ▸ hs
  | gfAdd | gfMul | gfDiv | gfExp | gfLog => obtain ⟨v, rfl⟩ := h; exact hs
  | rsGen n => obtain ⟨⟨h1, h2⟩, rfl⟩ := h; exact storeOk_rsGenBody hs h1 h2
  | rsEnc => obtain ⟨c, hc, _, h⟩ := h; exact storeOk_rsEncBody (sizeClass_mem hc) hs h
  | rsRem | rsSyn => obtain ⟨v, z, rfl⟩ := h; exact hs
  | plClear => exact (show t = _ from h) ▸ storeOk_setGrid hs gridOk_clearedGrid
  | plFinder =>
    obtain ⟨c, hc, rfl⟩ := h
    exact storeOk_writeGrid hs (isGridCell_finderWrites (sizeClass_mem hc))
  | plStart => obtain ⟨c, _, rfl⟩ := h; exact hs
  | plStep => obtain ⟨c, hc, _, h⟩ := h; exact storeOk_plStepBody (sizeClass_mem hc) hs h
  | plRun => obtain ⟨c, hc, h⟩ := h; exact storeOk_plRunBody (sizeClass_mem hc) hs h
  | plFixup => obtain ⟨c, hc, _, h⟩ := h; exact storeOk_plFixupBody (sizeClass_mem hc) hs h
  | symbol =>
    obtain ⟨c, u1, hc, h1, h⟩ := h
    have hc := sizeClass_mem hc
    obtain ⟨-, -, -, -, -, -, -, -, hs1, hs68, -⟩ := sizeRom_bounds c hc
    have hu1 : u1.StoreOk := storeOk_rsEncBody hc (storeOk_rsGenBody hs hs1 hs68) h1
    have hclear : (plClearBody u1).StoreOk := storeOk_setGrid hu1 gridOk_clearedGrid
    exact storeOk_plRunBody hc (storeOk_writeGrid hclear (isGridCell_finderWrites hc)) h

end StoreOk

/-! ### The walk -/

/-- An active walk: some number of micro-steps from PL_START, not at END, with a codeword left (R39, R167). -/
def Walk.ActiveOn (c : SizeClass) (w : Walk) : Prop :=
  w.wstate = .active ∧ ∃ n, walkAfter c n = some w ∧ w.phase ≠ .finish ∧ w.chr < c.n

/-- A finished walk: such a walk at END with CHR = N, before or after the fixup (R39, R167, R172). -/
def Walk.DoneOn (c : SizeClass) (w : Walk) : Prop :=
  ∃ n w' m, walkAfter c n = some w' ∧ w'.phase = .finish ∧ w'.chr = c.n ∧ w'.mask = some m ∧
    (w = { w' with wstate := .done } ∨ w = { w' with wstate := .done, mask := some (fixupMask c m) })

theorem Walk.DoneOn.wstate {c : SizeClass} {w : Walk} (h : w.DoneOn c) : w.wstate = .done := by
  obtain ⟨n, w', m, _, _, _, _, rfl | rfl⟩ := h <;> rfl

/-- The invariant of the walk, by the three values of WSTATE. -/
theorem walkOk_iff {s : State} : s.WalkOk ↔
    s.walk.wstate = .idle ∨ ∃ c, s.sizeClass? = some c ∧ (s.walk.ActiveOn c ∨ s.walk.DoneOn c) := by
  unfold State.WalkOk
  cases hw : s.walk.wstate with
  | idle => simp
  | active =>
    constructor
    · rintro ⟨c, n, hc, h⟩; exact .inr ⟨c, hc, .inl ⟨hw, n, h⟩⟩
    · rintro (h | ⟨c, hc, ⟨_, n, h⟩ | h⟩)
      · cases h
      · exact ⟨c, n, hc, h⟩
      · cases hw.symm.trans h.wstate
  | done =>
    constructor
    · rintro ⟨c, n, w, m, hc, h⟩; exact .inr ⟨c, hc, .inr ⟨n, w, m, h⟩⟩
    · rintro (h | ⟨c, hc, ⟨h, _⟩ | ⟨n, w, m, h⟩⟩)
      · cases h
      · cases hw.symm.trans h
      · exact ⟨c, n, w, m, hc, h⟩

theorem walkAfter_succ {c : SizeClass} {n : Nat} {w w' : Walk} (h : walkAfter c n = some w)
    (hm : w.microStep c = some w') : walkAfter c (n + 1) = some w' := by
  rw [walkAfter, h]; exact hm

/-- What micro-steps keep along the walk from PL_START. -/
theorem walkAfter_invariant {c : SizeClass} {P : Walk → Prop} (h0 : P Walk.start)
    (hstep : ∀ w w', P w → w.microStep c = some w' → P w') {n : Nat} {w : Walk} (h : walkAfter c n = some w) : P w := by
  induction n generalizing w with
  | zero => cases h; exact h0
  | succ n ih =>
    rw [walkAfter] at h
    split at h
    · cases h
    · next w0 h0 => exact hstep w0 w (ih h0) h

theorem microStep_wstate {c : SizeClass} {w w' : Walk} (h : w.microStep c = some w') : w'.wstate = w.wstate := by
  obtain ⟨_, ⟨_, rfl⟩ | ⟨l, w1, _, hp, rfl⟩⟩ := walk_microStep_eq_some.1 h
  · exact advance_wstate c w
  · obtain ⟨_, m, m', _, _, rfl⟩ := place_eq_some.1 hp
    exact advance_wstate c _

theorem microStep_mask_isSome {c : SizeClass} {w w' : Walk} (hw : w.mask.isSome = true)
    (h : w.microStep c = some w') : w'.mask.isSome = true := by
  obtain ⟨_, ⟨_, rfl⟩ | ⟨l, w1, _, hp, rfl⟩⟩ := walk_microStep_eq_some.1 h
  · rwa [advance_mask]
  · obtain ⟨_, m, m', _, _, rfl⟩ := place_eq_some.1 hp
    rw [advance_mask]; rfl

/-- Walk states from PL_START are active and have a mask. -/
theorem walkAfter_active {c : SizeClass} {n : Nat} {w : Walk} (h : walkAfter c n = some w) :
    w.wstate = .active ∧ ∃ m, w.mask = some m := by
  have hP := walkAfter_invariant (P := fun w => w.wstate = .active ∧ w.mask.isSome = true) ⟨rfl, rfl⟩
    (fun w w' hw hm => ⟨(microStep_wstate hm).trans hw.1, microStep_mask_isSome hw.2 hm⟩) h
  exact ⟨hP.1, Option.isSome_iff_exists.1 hP.2⟩

/-- The walk of the state is one that micro-steps reach from PL_START. -/
def OnWalk (c : SizeClass) (s : State) : Prop := ∃ n, walkAfter c n = some s.walk

theorem OnWalk.microStep {c : SizeClass} {s t : State} (hs : OnWalk c s) (h : microStep c s = .next t) :
    OnWalk c t := by
  obtain ⟨n, hn⟩ := hs
  rcases microStep_cases c s with ⟨_, he⟩ | ⟨w, hw, _, he⟩ | ⟨w, l, _, _, _, he⟩ | ⟨w, l, v, hw, _, _, he⟩
  · cases he.symm.trans h
  · cases he.symm.trans h; exact ⟨n + 1, walkAfter_succ hn hw⟩
  · cases he.symm.trans h
  · cases he.symm.trans h; exact ⟨n + 1, walkAfter_succ hn hw⟩

theorem OnWalk.repeatUntil {c : SizeClass} {s t : State} {stop : Walk → Bool} {b : Nat} (hs : OnWalk c s)
    (h : repeatUntil c stop b s = .next t) : OnWalk c t ∧ stop t.walk = true :=
  repeatUntil_invariant (OnWalk c) (fun _ _ hu hm => hu.microStep hm) hs h

theorem atEnd_iff {w : Walk} : w.atEnd = true ↔ w.phase = .finish := by simp [Walk.atEnd]

theorem fixupMask_idem (c : SizeClass) (m : MaskBits) : fixupMask c (fixupMask c m) = fixupMask c m := by
  simp only [fixupMask, fixupCells, List.foldl, setMask]
  apply BitVec.eq_of_getLsbD_eq
  intro i _
  simp only [BitVec.getLsbD_or]
  grind

/-- The start of a walk is active: every class has a codeword to place. -/
theorem activeOn_start {c : SizeClass} (hc : c ∈ sizeRom) : Walk.start.ActiveOn c := by
  obtain ⟨-, -, -, -, -, hn, -⟩ := sizeRom_bounds c hc
  exact ⟨rfl, 0, rfl, by decide, hn⟩

/-- A walk that micro-steps have brought to END and that `endWalk` ends is finished. -/
theorem doneOn_endWalk {c : SizeClass} {s t : State} (hs : OnWalk c s) (hend : s.walk.atEnd = true)
    (h : endWalk c s = .next t) : t.walk.DoneOn c := by
  obtain ⟨hchr, rfl⟩ := endWalk_eq_next.1 h
  obtain ⟨n, hn⟩ := hs
  obtain ⟨_, m, hm⟩ := walkAfter_active hn
  exact ⟨n, s.walk, m, hn, atEnd_iff.1 hend, hchr, hm, .inl rfl⟩

/-- PL_FIXUP leaves a finished walk finished; after the first fixup the mask no longer changes. -/
theorem doneOn_plFixupBody {c : SizeClass} {s t : State} (hs : s.walk.DoneOn c) (h : plFixupBody c s = .next t) :
    t.walk.DoneOn c := by
  rcases plFixupBody_cases c s with ⟨_, he⟩ | ⟨m, hm, ⟨_, he⟩ | ⟨_, he⟩⟩
  · cases he.symm.trans h
  · cases he.symm.trans h; exact hs
  · cases he.symm.trans h
    obtain ⟨n, w, m0, hn, hend, hchr, hm0, hw⟩ := hs
    refine ⟨n, w, m0, hn, hend, hchr, hm0, .inr ?_⟩
    show { s.walk with mask := some (fixupMask c m) } = _
    rcases hw with hw | hw <;> rw [hw] at hm ⊢
    · cases hm0.symm.trans hm; rfl
    · cases hm; rw [fixupMask_idem]

/-- PL_STEP on an active walk: still active with a codeword left, or finished. -/
theorem plStepBody_walk {c : SizeClass} {s t : State} (hs : s.walk.ActiveOn c) (h : plStepBody c s = .next t) :
    t.walk.ActiveOn c ∨ t.walk.DoneOn c := by
  obtain ⟨_, n, hn, _, hchr⟩ := hs
  obtain ⟨s1, s2, h1, h2, h3⟩ := plStepBody_eq_next.1 h
  obtain ⟨hw1, hstop⟩ := OnWalk.repeatUntil ⟨n, hn⟩ h1
  have hw2 : OnWalk c s2 := by
    split at h2
    · exact (hw1.repeatUntil h2).1
    · exact h2 ▸ hw1
  split at h3
  · next hend => exact .inr (doneOn_endWalk hw2 hend h3)
  · next hend =>
    rw [h3]
    obtain ⟨k, hk⟩ := hw2
    refine .inl ⟨(walkAfter_active hk).1, k, hk, fun hf => hend (atEnd_iff.2 hf), ?_⟩
    split at h2
    · exact absurd (hw1.repeatUntil h2).2 hend
    · next hne =>
      subst h2
      rw [Bool.or_eq_true, beq_iff_eq] at hstop
      have hnext : s2.walk.chr = s.walk.chr + 1 := hstop.resolve_right hend
      omega

/-- PL_RUN leaves a finished walk. -/
theorem plRunBody_walk {c : SizeClass} {s t : State} (h : plRunBody c s = .next t) : t.walk.DoneOn c := by
  obtain ⟨s1, s2, h1, h2, h3⟩ := plRunBody_eq_next.1 h
  have hstart : OnWalk c (plStartBody s) := ⟨0, rfl⟩
  obtain ⟨hw1, hend⟩ := hstart.repeatUntil h1
  exact doneOn_plFixupBody (doneOn_endWalk hw1 hend h2) h3

/-- What a command does to the walk: it keeps it, or leaves an active or finished walk of the selected class. -/
theorem performs_walk {i : Instr} {s u : State} (hs : s.WalkOk) (h : Performs i s u) :
    u.walk = s.walk ∨ ∃ c, s.sizeClass? = some c ∧ (u.walk.ActiveOn c ∨ u.walk.DoneOn c) := by
  cases i with
  | nop => exact .inl (congrArg State.walk h)
  | gfAdd | gfMul | gfDiv | gfExp | gfLog => obtain ⟨v, rfl⟩ := h; exact .inl rfl
  | rsGen n => obtain ⟨_, rfl⟩ := h; exact .inl rfl
  | rsEnc =>
    obtain ⟨c, _, _, h⟩ := h
    rcases rsEncBody_cases c s with ⟨_, he⟩ | ⟨ws, _, he⟩
    · cases he.symm.trans h
    · cases he.symm.trans h; exact .inl rfl
  | rsRem | rsSyn => obtain ⟨v, z, rfl⟩ := h; exact .inl rfl
  | plClear => rw [show u = plClearBody s from h]; exact .inl rfl
  | plFinder => obtain ⟨c, _, rfl⟩ := h; exact .inl rfl
  | plStart => obtain ⟨c, hc, rfl⟩ := h; exact .inr ⟨c, hc, .inl (activeOn_start (sizeClass_mem hc))⟩
  | plStep =>
    obtain ⟨c, hc, hw, h⟩ := h
    rcases walkOk_iff.1 hs with hi | ⟨c', hc', ha | hd⟩
    · cases hw.symm.trans hi
    · cases hc.symm.trans hc'
      exact .inr ⟨c, hc, plStepBody_walk ha h⟩
    · cases hw.symm.trans hd.wstate
  | plRun => obtain ⟨c, hc, h⟩ := h; exact .inr ⟨c, hc, .inr (plRunBody_walk h)⟩
  | plFixup =>
    obtain ⟨c, hc, hw, h⟩ := h
    rcases walkOk_iff.1 hs with hi | ⟨c', hc', ha | hd⟩
    · cases hw.symm.trans hi
    · cases hw.symm.trans ha.1
    · cases hc.symm.trans hc'
      exact .inr ⟨c, hc, .inr (doneOn_plFixupBody hd h)⟩
  | symbol => obtain ⟨c, u1, hc, _, h⟩ := h; exact .inr ⟨c, hc, .inr (plRunBody_walk h)⟩

/-! ### The engine's turn -/

theorem exec_storeOk {i : Instr} {s t : State} (hs : s.StoreOk) (h : exec i s = .next t) : t.StoreOk := by
  rcases exec_eq_next h with ⟨e, he⟩ | ⟨u, hu, rfl⟩
  · exact storeOk_raiseError hs he
  · exact storeOk_complete (storeOk_performs hs hu)

/-- What a command does to the walk and the class. -/
theorem exec_walk {i : Instr} {s t : State} (hs : s.WalkOk) (h : exec i s = .next t) :
    t.sizeClass? = s.sizeClass? ∧
      (t.walk = s.walk ∨ ∃ c, s.sizeClass? = some c ∧ (t.walk.ActiveOn c ∨ t.walk.DoneOn c)) := by
  rcases exec_eq_next h with ⟨e, he⟩ | ⟨u, hu, rfl⟩
  · rw [raiseError_eq_next] at he; subst he; exact ⟨rfl, .inl rfl⟩
  · have hclass := sizeClass_of_outside (performs_outside hu)
    have hwalk := performs_walk hs hu
    exact ⟨hclass, hwalk⟩

end Sys2Proof.Machine
end

section
/-! PROOFS, the state: the host's turn and the invariant of every step. -/

namespace Sys2Proof.Machine

/-! ### Accepted accesses -/

theorem registerMap_listed : ∀ l ∈ registerMap, Claims.Listed l := by
  simp [registerMap, Claims.Listed]

/-- The map only reaches locations whose indices it lists (R73). -/
theorem locate_listed {a : Nat} {l : Location} (h : locate a = some l) : Claims.Listed l := by
  simp only [locate] at h
  split_ifs at h with h0 h1 h2 h3 h4 h5 h6
  · exact registerMap_listed l (List.mem_of_getElem? h)
  · cases h; simp only [Claims.Listed]; omega
  · cases h; simp only [Claims.Listed]; omega
  · cases h; simp only [Claims.Listed]; omega
  · cases h; simp only [Claims.Listed, Config.cwSize] at h5 ⊢; omega
  · cases h; exact h6.2

theorem accept_eq_some {addr : Addr} {width : Width} {l : Location} (h : accept addr width = some l) :
    width = .word ∧ locate addr.toNat = some l := by
  cases width with
  | word => exact ⟨rfl, h⟩
  | byte | half => cases h

/-! ### The host's turn -/

theorem unlessBusy_cases (s s' : State) :
    (s.busy = true ∧ unlessBusy s s' = { s with ovr := true }) ∨ (s.busy = false ∧ unlessBusy s s' = s') := by
  unfold unlessBusy
  cases s.busy <;> simp

/-- What holds of the state with OVR set and of the state after an accepted write holds after the write. -/
theorem unlessBusy_keeps (P : State → Prop) {s s' : State} (hs : P { s with ovr := true }) (hs' : P s') :
    P (unlessBusy s s') := by
  rcases unlessBusy_cases s s' with ⟨_, he⟩ | ⟨_, he⟩ <;> rw [he]
  · exact hs
  · exact hs'

/-- All that a write to CTRL can do. -/
theorem writeCtrl_cases (v : Word) (s : State) :
    (v.getLsbD 1 = true ∧ writeCtrl v s = softReset s) ∨
    (v.getLsbD 1 = false ∧ writeCtrl v s = { s with ie := v.getLsbD 0 }) := by
  unfold writeCtrl
  cases v.getLsbD 1 with
  | true => exact .inl ⟨rfl, rfl⟩
  | false => exact .inr ⟨rfl, rfl⟩

/-- All that a write can do. -/
theorem hostWrite_cases (addr : Addr) (width : Width) (v : Word) (s : State) :
    (accept addr width = none ∧
      hostWrite addr width v s = { s with busErr := true, response := some (.writeDone true) }) ∨
    ∃ l, accept addr width = some l ∧
      hostWrite addr width v s = { writeAt l v s with response := some (.writeDone false) } := by
  unfold hostWrite
  cases accept addr width with
  | none => exact .inl ⟨rfl, rfl⟩
  | some l => exact .inr ⟨l, rfl, rfl⟩

section HostKeeps

/-! What the host's turn keeps: a property that does not speak of BUSERR and the host's own part, and that every
accepted write keeps. -/

variable {P : State → Prop}
  (hbus : ∀ (s : State) (e : Bool) (r : Option BusResponse) (d n : Nat), P s →
    P { s with busErr := e, response := r, draws := d, hostNext := n })
  (hwrite : ∀ (s : State) (a : Nat) (l : Location) (v : Word), locate a = some l → P s → P (writeAt l v s))

include hbus

theorem hostRead_keeps {s : State} (addr : Addr) (width : Width) (hs : P s) : P (hostRead addr width s) := by
  rcases hostRead_cases addr width s with ⟨_, he⟩ | ⟨l, _, he⟩ | ⟨l, v, _, _, he⟩ <;> rw [he]
  · exact hbus s true _ s.draws s.hostNext hs
  · exact hbus s s.busErr _ (s.draws + 1) s.hostNext hs
  · exact hbus s s.busErr _ s.draws s.hostNext hs

include hwrite

theorem transact_keeps {s : State} (t : Transaction) (hs : P s) : P (transact t s) := by
  cases t with
  | read addr width => exact hostRead_keeps hbus addr width hs
  | write addr width v =>
    show P (hostWrite addr width v s)
    rcases hostWrite_cases addr width v s with ⟨_, he⟩ | ⟨l, hl, he⟩ <;> rw [he]
    · exact hbus s true _ s.draws s.hostNext hs
    · have hw := hwrite s _ l v (accept_eq_some hl).2 hs
      exact hbus (writeAt l v s) _ _ _ _ hw

theorem hostTurn_keeps {s : State} (hs : P s) : P (hostTurn s) := by
  rcases hostTurn_cases s with he | ⟨t, he⟩ | ⟨addr, n, he⟩ <;> rw [he]
  · exact hs
  · exact transact_keeps hbus hwrite t (hbus s s.busErr s.response s.draws (s.hostNext + 1) hs)
  · have hr := hostRead_keeps hbus addr .word hs
    exact hbus (hostRead addr .word s) _ _ _ n hr

end HostKeeps

/-- What a reset event makes of the state, as far as the invariant goes. -/
theorem inv_resetTo {s : State} {cw grid : Memory} {mask : Option MaskBits} (hcw : cwOk cw = true)
    (hgrid : gridOk grid = true) : (resetTo cw grid mask s).Inv :=
  ⟨hcw, hgrid, ⟨Nat.zero_le _, rfl⟩, pendingOk_of_none rfl, trivial⟩

/-- A soft reset keeps each memory or forgets some of its cells. -/
theorem softReset_cases (s : State) :
    (s.pendingInstr = none ∧ softReset s = resetTo s.cw s.grid s.walk.mask s) ∨
    ∃ i, s.pendingInstr = some i ∧ softReset s =
      resetTo (Memory.forget s.cw (writesCw s.sizeClass? i)) (Memory.forget s.grid (writesGrid s.sizeClass? i))
        (if writesMask s.sizeClass? i then none else s.walk.mask) s := by
  unfold softReset
  cases s.pendingInstr with
  | none => exact .inl ⟨rfl, rfl⟩
  | some i => exact .inr ⟨i, rfl, rfl⟩

theorem inv_softReset {s : State} (hs : s.Inv) : (softReset s).Inv := by
  obtain ⟨hcw, hgrid, -⟩ := hs
  rcases softReset_cases s with ⟨_, he⟩ | ⟨i, _, he⟩ <;> rw [he]
  · exact inv_resetTo hcw hgrid
  · exact inv_resetTo (Memory.okFor_forget _ hcw) (Memory.okFor_forget _ hgrid)

theorem inv_issue {s : State} {w : Word} (hs : s.Inv) : (issue w s).Inv := by
  obtain ⟨hcw, hgrid, hgen, -, hwalk⟩ := hs
  exact ⟨hcw, hgrid, hgen, fun v hv => Option.some.inj hv, hwalk⟩

theorem inv_writeSize {s : State} {v : Word} (hs : s.Inv) : (writeSize v s).Inv := by
  obtain ⟨hcw, hgrid, hgen, hpend, -⟩ := hs
  exact ⟨hcw, hgrid, hgen, hpend, trivial⟩

theorem inv_writeAt {s : State} {a : Nat} {l : Location} {v : Word} (hl : locate a = some l) (hs : s.Inv) :
    (writeAt l v s).Inv := by
  cases l with
  | status => exact hs
  | ctrl =>
    rcases writeCtrl_cases v s with ⟨_, he⟩ | ⟨_, he⟩ <;> rw [writeAt, he]
    · exact inv_softReset hs
    · exact hs
  | cmd => exact unlessBusy_keeps State.Inv hs (inv_issue hs)
  | size => exact unlessBusy_keeps State.Inv hs (inv_writeSize hs)
  | cw i =>
    have ⟨hcw, hrest⟩ := hs
    have hi : Claims.Listed (.cw i) := locate_listed hl
    exact unlessBusy_keeps State.Inv hs ⟨Memory.okFor_write hcw (decide_eq_true hi), hrest⟩
  | grid x y =>
    have ⟨hcw, hgrid, hrest⟩ := hs
    obtain ⟨hx, hy⟩ : Claims.Listed (.grid x y) := locate_listed hl
    have hcell := isGridCell_bitByte (isGridKey_gridKey hx hy) (v.getLsbD 0)
    exact unlessBusy_keeps State.Inv hs ⟨hcw, Memory.okFor_write hgrid hcell, hrest⟩
  | id | result | geom | genS | plCur | plInfo | plLast | gen | rem | syn => exact hs

theorem inv_hostTurn {s : State} (hs : s.Inv) : (hostTurn s).Inv :=
  hostTurn_keeps (P := State.Inv) (fun _ _ _ _ _ h => h) (fun _ _ _ _ hl h => inv_writeAt hl h) hs

/-! ### Every step -/

/-- All that the engine's turn can do when it answers a next state. -/
theorem engineStep_eq_next {s t : State} (h : engineStep s = .next t) :
    t = s ∨ raiseError .illegalOp s = .next t ∨ ∃ i, exec i s = .next t := by
  unfold engineStep at h
  split at h
  · cases h; exact .inl rfl
  · split at h
    · exact .inr (.inl h)
    · exact .inr (.inr ⟨_, h⟩)

theorem inv_exec {i : Instr} {s t : State} (hs : s.Inv) (h : exec i s = .next t) : t.Inv := by
  obtain ⟨hstore, hwalk⟩ := inv_iff.1 hs
  obtain ⟨hclass, hkeep⟩ := exec_walk hwalk h
  refine inv_iff.2 ⟨exec_storeOk hstore h, ?_⟩
  rcases hkeep with hw | ⟨c, hc, hw⟩
  · rw [walkOk_iff, hw, hclass]; exact walkOk_iff.1 hwalk
  · exact walkOk_iff.2 (.inr ⟨c, hclass.trans hc, hw⟩)

theorem inv_engineStep {s t : State} (hs : s.Inv) (h : engineStep s = .next t) : t.Inv := by
  rcases engineStep_eq_next h with rfl | he | ⟨i, he⟩
  · exact hs
  · obtain ⟨hstore, hwalk⟩ := inv_iff.1 hs
    have hstore' := storeOk_raiseError hstore he
    rw [raiseError_eq_next] at he
    subst he
    exact inv_iff.2 ⟨hstore', hwalk⟩
  · exact inv_exec hs he

end Sys2Proof.Machine

open Sys2Proof Sys2Proof.Machine

/-- Settles O58: the host's turn, the engine's turn and the reset input each keep the invariant. -/
theorem everyStepKeepsInvariant : Obligations.EveryStepKeepsInvariant := by
  intro s t hs h
  have hpop : s.popTurn.Inv := hs
  rcases step_cases s with ⟨_, he⟩ | ⟨_, he⟩ | ⟨_, he⟩
  · cases he.symm.trans h; exact inv_hostTurn hpop
  · exact inv_engineStep hpop (he.symm.trans h)
  · cases he.symm.trans h; exact inv_resetTo (s := s.popTurn) (mask := none) rfl rfl

end

section
/-! PROOFS, the state: the ranges of the walk registers (R32, R40). -/

namespace Sys2Proof.Machine

/-- The largest range of the cursor in a class (R32). -/
def CursorRange (c : SizeClass) (row col : Int) : Prop :=
  (-1 ≤ row ∧ row ≤ c.nrow + 8) ∧ 0 ≤ col ∧ col ≤ c.ncol + 3

/-- Where the cursor stands in each phase. Up the walk it stands on even rows and columns left of the last column, down
the walk on odd ones, and a sweep that begins below the matrix begins to the right of it, so that it ends the walk. -/
def Walk.CursorOk (c : SizeClass) (w : Walk) : Prop :=
  match w.phase with
  | .corner | .up => (0 ≤ w.row ∧ w.row ≤ c.nrow + 4 ∧ w.row % 2 = 0) ∧ 0 ≤ w.col ∧ w.col < c.ncol ∧ w.col % 2 = 0
  | .down => (-1 ≤ w.row ∧ w.row ≤ c.nrow + 3 ∧ w.row % 2 = 1) ∧ (1 ≤ w.col ∧ w.col ≤ c.ncol + 3 ∧ w.col % 2 = 1) ∧
      (c.nrow ≤ w.row → c.ncol < w.col)
  | .finish => CursorRange c w.row w.col

theorem cursorRange_of_cursorOk {c : SizeClass} {w : Walk} (h : w.CursorOk c) : CursorRange c w.row w.col := by
  unfold Walk.CursorOk at h
  unfold CursorRange
  split at h
  · omega
  · omega
  · omega
  · exact h

theorem cursorOk_advance {c : SizeClass} (hc : c ∈ sizeRom) {w : Walk} (h : w.CursorOk c) :
    (w.advance c).CursorOk c := by
  obtain ⟨hrow, -, hcol, -, heven, -⟩ := sizeRom_bounds c hc
  unfold Walk.advance
  cases hp : w.phase with
  | corner => simpa [Walk.CursorOk, hp] using h
  | finish => simpa using h
  | up =>
    simp only [Walk.CursorOk, hp] at h
    dsimp only
    split
    · simp only [Walk.CursorOk]; omega
    · simp only [Walk.CursorOk]; omega
  | down =>
    simp only [Walk.CursorOk, hp] at h
    dsimp only
    split
    · simp only [Walk.CursorOk]; omega
    · by_cases hmore : w.row + 2 + 3 < c.nrow ∨ w.col - 2 + 1 < c.ncol
      · simp only [Walk.CursorOk, hmore, if_true]; omega
      · simp only [Walk.CursorOk, CursorRange, hmore, if_false]; omega

/-- The walk registers within the ranges of the class, the cursor as its phase says. -/
def Walk.RegistersOk (c : SizeClass) (w : Walk) : Prop :=
  w.CursorOk c ∧ CursorRange c w.lastRow w.lastCol ∧ w.chr ≤ c.n

theorem registersOk_advance {c : SizeClass} (hc : c ∈ sizeRom) {w : Walk} (h : w.RegistersOk c) :
    (w.advance c).RegistersOk c := by
  obtain ⟨hcur, hlast, hchr⟩ := h
  refine ⟨cursorOk_advance hc hcur, ?_, ?_⟩
  · rwa [advance_lastRow, advance_lastCol]
  · rwa [advance_chr]

theorem registersOk_place {c : SizeClass} {l : Layout} {w w' : Walk} (h : w.RegistersOk c)
    (hp : w.place c l = some w') : w'.RegistersOk c := by
  obtain ⟨hchr, m, m', _, _, rfl⟩ := place_eq_some.1 hp
  exact ⟨h.1, cursorRange_of_cursorOk h.1, hchr⟩

theorem registersOk_microStep {c : SizeClass} (hc : c ∈ sizeRom) {w w' : Walk} (h : w.RegistersOk c)
    (hm : w.microStep c = some w') : w'.RegistersOk c := by
  obtain ⟨_, ⟨_, rfl⟩ | ⟨l, w1, _, hp, rfl⟩⟩ := walk_microStep_eq_some.1 hm
  · exact registersOk_advance hc h
  · exact registersOk_advance hc (registersOk_place h hp)

theorem registersOk_start {c : SizeClass} (hc : c ∈ sizeRom) : Walk.start.RegistersOk c := by
  obtain ⟨hrow, -, hcol, -⟩ := sizeRom_bounds c hc
  simp only [Walk.RegistersOk, Walk.CursorOk, CursorRange, Walk.start]
  omega

/-- R167 (e): along the walk of every class the registers stay in the ranges of the class. -/
theorem registersOk_walkAfter {c : SizeClass} (hc : c ∈ sizeRom) {n : Nat} {w : Walk} (h : walkAfter c n = some w) :
    w.RegistersOk c :=
  walkAfter_invariant (registersOk_start hc) (fun _ _ => registersOk_microStep hc) h

theorem inRange_of_registersOk {c : SizeClass} (hc : c ∈ sizeRom) {w : Walk} (h : w.RegistersOk c) : w.InRange := by
  obtain ⟨-, hrow, -, hcol, -, -, hn, -⟩ := sizeRom_bounds c hc
  obtain ⟨hcur, hlast, hchr⟩ := h
  have hcur := cursorRange_of_cursorOk hcur
  unfold CursorRange at hcur hlast
  unfold Walk.InRange
  omega

theorem inRange_of_activeOn {c : SizeClass} (hc : c ∈ sizeRom) {w : Walk} (h : w.ActiveOn c) : w.InRange := by
  obtain ⟨_, n, hn, _⟩ := h
  exact inRange_of_registersOk hc (registersOk_walkAfter hc hn)

theorem inRange_of_doneOn {c : SizeClass} (hc : c ∈ sizeRom) {w : Walk} (h : w.DoneOn c) : w.InRange := by
  obtain ⟨n, w', m, hn, _, _, _, hw⟩ := h
  have hin : w'.InRange := inRange_of_registersOk hc (registersOk_walkAfter hc hn)
  rcases hw with rfl | rfl <;> exact hin

theorem inRange_exec {i : Instr} {s t : State} (hs : s.Inv) (hr : s.walk.InRange) (h : exec i s = .next t) :
    t.walk.InRange := by
  obtain ⟨-, hwalk⟩ := inv_iff.1 hs
  obtain ⟨-, hw | ⟨c, hc, hw | hw⟩⟩ := exec_walk hwalk h
  · rwa [hw]
  · exact inRange_of_activeOn (sizeClass_mem hc) hw
  · exact inRange_of_doneOn (sizeClass_mem hc) hw

theorem inRange_engineStep {s t : State} (hs : s.Inv) (hr : s.walk.InRange) (h : engineStep s = .next t) :
    t.walk.InRange := by
  rcases engineStep_eq_next h with rfl | he | ⟨i, he⟩
  · exact hr
  · rw [raiseError_eq_next] at he; subst he; exact hr
  · exact inRange_exec hs hr he

/-! ### The host's turn -/

theorem inRange_resetTo (cw grid : Memory) (mask : Option MaskBits) (s : State) :
    (resetTo cw grid mask s).walk.InRange := by
  show Walk.reset.InRange
  unfold Walk.InRange
  decide

theorem inRange_softReset (s : State) : (softReset s).walk.InRange := by
  rcases softReset_cases s with ⟨_, he⟩ | ⟨i, _, he⟩ <;> rw [he] <;> exact inRange_resetTo _ _ _ _

theorem inRange_writeAt {s : State} {l : Location} {v : Word} (hs : s.walk.InRange) : (writeAt l v s).walk.InRange := by
  cases l with
  | ctrl =>
    rcases writeCtrl_cases v s with ⟨_, he⟩ | ⟨_, he⟩ <;> rw [writeAt, he]
    · exact inRange_softReset s
    · exact hs
  | cmd | size | cw | grid => exact unlessBusy_keeps (fun u => u.walk.InRange) hs hs
  | status | id | result | geom | genS | plCur | plInfo | plLast | gen | rem | syn => exact hs

theorem inRange_hostTurn {s : State} (hs : s.walk.InRange) : (hostTurn s).walk.InRange :=
  hostTurn_keeps (P := fun u => u.walk.InRange) (fun _ _ _ _ _ h => h) (fun _ _ _ _ _ h => inRange_writeAt h) hs

end Sys2Proof.Machine

open Sys2Proof Sys2Proof.Machine

/-- Settles O59: a walk that a command leaves is on the walk from PL_START, whose registers stay in the ranges of its
class; the host can only reset them or end the walk. -/
theorem everyStepKeepsWalkRegistersInRange : Obligations.EveryStepKeepsWalkRegistersInRange := by
  intro s t hs hr h
  have hpop : s.popTurn.Inv := hs
  have hpopr : s.popTurn.walk.InRange := hr
  rcases step_cases s with ⟨_, he⟩ | ⟨_, he⟩ | ⟨_, he⟩
  · cases he.symm.trans h; exact inRange_hostTurn hpopr
  · exact inRange_engineStep hpop hpopr (he.symm.trans h)
  · cases he.symm.trans h; exact inRange_resetTo [] [] none s.popTurn

end

section
/-! PROOFS, the state: the host interface to the registers (R23 to R33, R50), the soft reset (R240, R242) and the
tables (R43, R46, R47). -/

namespace Sys2Proof.Machine

/-! ### Accesses to the registers -/

theorem accept_status : accept 0x00004 .word = some .status := by decide
theorem accept_ctrl : accept 0x00008 .word = some .ctrl := by decide
theorem accept_cmd : accept 0x0000C .word = some .cmd := by decide
theorem accept_size : accept 0x00014 .word = some .size := by decide

theorem hostWrite_of_accept {addr : Addr} {l : Location} (h : accept addr .word = some l) (v : Word) (s : State) :
    hostWrite addr .word v s = { writeAt l v s with response := some (.writeDone false) } := by
  simp only [hostWrite, h]

theorem hostWrite_status (v : Word) (s : State) :
    hostWrite 0x00004 .word v s = { acknowledge v s with response := some (.writeDone false) } :=
  hostWrite_of_accept accept_status v s

theorem hostWrite_ctrl (v : Word) (s : State) :
    hostWrite 0x00008 .word v s = { writeCtrl v s with response := some (.writeDone false) } :=
  hostWrite_of_accept accept_ctrl v s

theorem hostWrite_cmd (w : Word) (s : State) :
    hostWrite 0x0000C .word w s = { unlessBusy s (issue w s) with response := some (.writeDone false) } :=
  hostWrite_of_accept accept_cmd w s

theorem hostWrite_size (v : Word) (s : State) :
    hostWrite 0x00014 .word v s = { unlessBusy s (writeSize v s) with response := some (.writeDone false) } :=
  hostWrite_of_accept accept_size v s

theorem unlessBusy_idle {s : State} (h : s.busy = false) (s' : State) : unlessBusy s s' = s' := by
  simp [unlessBusy, h]

theorem unlessBusy_busy {s : State} (h : s.busy = true) (s' : State) : unlessBusy s s' = { s with ovr := true } := by
  simp [unlessBusy, h]

/-- PL_STEP on an idle walk of a legal class fails (R169). -/
theorem exec_plStep_idle {s : State} {c : SizeClass} (hc : s.sizeClass? = some c) (hw : s.walk.wstate = .idle) :
    exec .plStep s = raiseError .walkInactive s := by
  rw [exec, execPlStep, withClass_some hc, hw]

/-! ### Reads -/

/-- A read of a location that holds a value answers it, unless the read is a draw (R81). -/
theorem hostRead_of_held {addr : Addr} {l : Location} {v : Word} {s : State} (h : accept addr .word = some l)
    (hb : (s.busy && l.drawnWhileBusy) = false) (hv : s.held l = some v) :
    hostRead addr .word s = { s with response := some (.readDone v false) } := by
  simp only [hostRead, h, hb, hv, Bool.false_eq_true, if_false]

/-- What a location holds does not depend on the last answer. -/
theorem held_response (s : State) (r : Option BusResponse) (l : Location) :
    State.held { s with response := r } l = s.held l := by
  cases l <;> rfl

/-! ### STATUS -/

/-- The bits of STATUS, from bit 0 up (R23). -/
def State.statusBits (s : State) : List Bool :=
  [s.busy, s.done, s.err, s.ovr, s.busErr, s.zero, s.genValid, s.walkActive, s.walkDone, s.fixed, false, false,
   s.errCode.toBits.getLsbD 0, s.errCode.toBits.getLsbD 1, s.errCode.toBits.getLsbD 2, s.errCode.toBits.getLsbD 3]

theorem statusWord_getLsbD (s : State) (i : Nat) : s.statusWord.getLsbD i = s.statusBits.getD i false := by
  by_cases hi : i < 32
  · simp only [State.statusWord, flag, BitVec.getLsbD_append, BitVec.getLsbD_ofBool]
    interval_cases i <;> simp [State.statusBits]
  · rw [BitVec.getLsbD_of_ge _ _ (by omega), List.getD_eq_default _ _ (by simp [State.statusBits]; omega)]

/-- The reserved bits and ERRCODE of STATUS (R23). -/
theorem statusWord_fields (s : State) : s.statusWord.extractLsb' 10 2 = 0 ∧
    s.statusWord.extractLsb' 12 4 = s.errCode.toBits ∧ s.statusWord.extractLsb' 16 16 = 0 := by
  simp only [State.statusWord, BitVec.extractLsb'_append_eq_of_le, Nat.reduceLeDiff, Nat.reduceSub,
    BitVec.extractLsb'_append_eq_right]
  exact ⟨rfl, trivial, rfl⟩

theorem statusWord_acknowledge (v : Word) (s : State) :
    (acknowledge v s).statusWord = s.statusWord &&& ~~~(v &&& 0x1E#32) := by
  apply BitVec.eq_of_getLsbD_eq
  intro i hi
  rw [BitVec.getLsbD_and, BitVec.getLsbD_not, BitVec.getLsbD_and, statusWord_getLsbD, statusWord_getLsbD]
  interval_cases i <;> simp [State.statusBits, State.busy, State.genValid, State.walkActive, State.walkDone]

/-! ### EXP -/

theorem logRom_expRom : ∀ i, i < 255 → logRom (expRom i) = some i := by decide +kernel

theorem expRom_logRom : ∀ a : Byte, a ≠ 0 → ∃ i, logRom a = some i ∧ i < 255 ∧ expRom i = a := by
  have h : ∀ a : Byte, a ≠ 0 → (logRom a).any (fun i => decide (i < 255) && expRom i == a) = true := by decide +kernel
  intro a ha
  obtain ⟨i, hi, hp⟩ := (Option.any_eq_true _ _).1 (h a ha)
  simp only [Bool.and_eq_true, decide_eq_true_eq, beq_iff_eq] at hp
  exact ⟨i, hi, hp⟩

theorem expRom_succ : ∀ i, i < 254 → (expRom (i + 1)).toNat =
    if 2 * (expRom i).toNat > 255 then (2 * (expRom i).toNat) ^^^ 0x12D else 2 * (expRom i).toNat := by decide +kernel

/-! ### The size table -/

/-- Every column of the size table fits its GEOM field (R31). -/
theorem sizeRom_fields : ∀ c ∈ sizeRom, c.w < 2 ^ 8 ∧ c.h < 2 ^ 8 ∧ c.rw < 2 ^ 8 ∧ c.rh < 2 ^ 8 ∧ c.ncol < 2 ^ 8 ∧
    c.nrow < 2 ^ 8 ∧ c.rx < 2 ^ 4 ∧ c.ry < 2 ^ 4 ∧ c.b < 2 ^ 4 ∧ c.d < 2 ^ 12 ∧ c.e < 2 ^ 12 ∧ c.n < 2 ^ 12 ∧
    c.s < 2 ^ 7 := by decide

theorem toNat_append_ofNat {n m x : Nat} (a : BitVec n) (h : x < 2 ^ m) :
    (a ++ BitVec.ofNat m x).toNat = a.toNat * 2 ^ m + x := by
  rw [BitVec.toNat_append, BitVec.toNat_ofNat, Nat.mod_eq_of_lt h, ← Nat.shiftLeft_add_eq_or_of_lt h,
    Nat.shiftLeft_eq]

end Sys2Proof.Machine

open Sys2Proof Sys2Proof.Machine Sys2Proof.Claims

/-- Settles O52: by what a soft reset forgets and what the reset input sets. -/
theorem ctrlWriteAndSoftReset : Obligations.CtrlWriteAndSoftReset := by
  refine ⟨fun s v hv => ?_, fun s v hv => ?_, fun s => ⟨?_, ?_⟩, fun s ht => ?_⟩
  · rcases writeCtrl_cases v s with ⟨hsrst, _⟩ | ⟨_, he⟩
    · cases hv.symm.trans hsrst
    · rw [hostWrite_ctrl, he]
  · rcases writeCtrl_cases v s with ⟨_, he⟩ | ⟨hsrst, _⟩
    case inr => cases hv.symm.trans hsrst
    rw [hostWrite_ctrl, he]
    rcases softReset_cases s with ⟨hp, he⟩ | ⟨i, hp, he⟩ <;> rw [he, hp]
    · exact ⟨s.cw, s.grid, s.walk.mask, rfl, fun _ => ⟨rfl, rfl, rfl⟩, fun i hi => nomatch hi⟩
    · refine ⟨_, _, _, rfl, fun hn => absurd hn (Option.some_ne_none i), fun j hj key => ?_⟩
      cases hj
      exact ⟨Memory.read_forget _ _ _, Memory.read_forget _ _ _⟩
  · rw [State.ctrlWord, BitVec.getLsbD_append, flag, BitVec.getLsbD_ofBool]; simp
  · exact BitVec.extractLsb'_append_eq_left
  · rcases step_cases s with ⟨h, _⟩ | ⟨h, _⟩ | ⟨_, he⟩
    · cases ht.symm.trans h
    · cases ht.symm.trans h
    · exact he

/-- Settles O8: LOG inverts EXP, so the entries are distinct and cover the non-zero bytes. -/
theorem expTableByDoubling : Obligations.ExpTableByDoubling := by
  refine ⟨rfl, expRom_succ, fun i j hi hj h => ?_, fun a ha => ?_⟩
  · have hlog := logRom_expRom i hi
    rw [h, logRom_expRom j hj] at hlog
    exact (Option.some.inj hlog).symm
  · obtain ⟨i, -, hi⟩ := expRom_logRom a ha
    exact ⟨i, hi⟩

/-- Settles O47: by the cases of a read; the second read sees the same location. -/
theorem readsHaveNoSideEffect : Obligations.ReadsHaveNoSideEffect := by
  refine ⟨fun s addr width => ?_, fun s addr l v hl hb hv => ?_⟩
  · rcases hostRead_cases addr width s with ⟨hn, he⟩ | ⟨l, _, he⟩ | ⟨l, v, _, _, he⟩
    · exact ⟨true, _, s.draws, he, .inr hn⟩
    · exact ⟨s.busErr, _, s.draws + 1, he, .inl rfl⟩
    · exact ⟨s.busErr, _, s.draws, he, .inl rfl⟩
  · have hidle (t : State) (ht : t.busy = false) : (t.busy && l.drawnWhileBusy) = false := by rw [ht, Bool.false_and]
    rw [hostRead_of_held hl (hidle s hb) hv]
    refine ⟨rfl, ?_⟩
    rw [hostRead_of_held hl (hidle { s with response := some (.readDone v false) } hb) ((held_response s _ l).trans hv)]

/-- Settles O48: by the list of the bits of STATUS. -/
theorem statusBitsAndWriteOneToClear : Obligations.StatusBitsAndWriteOneToClear := by
  refine ⟨fun s v => ?_, fun s => ?_⟩
  · rw [hostWrite_status]
    exact ⟨statusWord_acknowledge v s, _, _, _, _, rfl⟩
  · obtain ⟨hlow, hcode, hhigh⟩ := statusWord_fields s
    simp only [statusWord_getLsbD]
    refine ⟨rfl, rfl, rfl, rfl, rfl, rfl, ?_, rfl, rfl, rfl, hlow, hcode, hhigh, ?_⟩
    · show s.genValid = _
      rw [Bool.eq_iff_iff]
      simp [State.genValid]
    · rintro ⟨h1, h2⟩
      cases (beq_iff_eq.1 h1).symm.trans (beq_iff_eq.1 h2)

/-- Settles O49: by the accepted and the dropped write; CMD is not drawn while BUSY. -/
theorem cmdWriteIssues : Obligations.CmdWriteIssues := by
  refine ⟨fun s w hb => ?_, fun s w hb => ?_, rfl⟩
  · rw [hostWrite_cmd, unlessBusy_idle hb]
    refine ⟨rfl, rfl, ?_⟩
    rw [hostRead_of_held (v := w) accept_cmd (Bool.and_false _) rfl]
  · rw [hostWrite_cmd, unlessBusy_busy hb]

/-- Settles O50: the write leaves WSTATE = IDLE, on which PL_STEP fails. -/
theorem sizeWriteEndsWalk : Obligations.SizeWriteEndsWalk := by
  refine ⟨fun s v hb => ?_, fun s v hb => ?_, fun s v hb hv => ?_, fun s => classRow_eq_none⟩
  · rw [hostWrite_size, unlessBusy_idle hb]
    rfl
  · rw [hostWrite_size, unlessBusy_busy hb]
  · rw [hostWrite_size, unlessBusy_idle hb]
    obtain ⟨c, hc⟩ := Option.ne_none_iff_exists'.1 (mt classRow_eq_none.1 (Nat.not_le.2 hv))
    exact exec_plStep_idle hc rfl

/-- Settles O54: a command that completes sets DONE and keeps IE. -/
theorem irqIsEnabledDone : Obligations.IrqIsEnabledDone := by
  refine ⟨fun s => rfl, rfl, fun i s t h hie => ?_, fun s v hv => ?_, fun s v h0 h1 => ?_⟩
  · obtain ⟨hdone, _, hkeep⟩ := exec_completes h
    rw [State.irq, hdone, hkeep, hie]; rfl
  · rw [hostWrite_status]
    simp [State.irq, hv]
  · rcases writeCtrl_cases v s with ⟨hsrst, _⟩ | ⟨_, he⟩
    · cases h1.symm.trans hsrst
    · rw [hostWrite_ctrl, he]
      simp only [State.irq, h0, Bool.false_and]

/-- Settles O55: the identities row by row; each GEOM field holds its column because the column fits. -/
theorem sizeRomRowsAndGeomRegisters : Obligations.SizeRomRowsAndGeomRegisters := by
  refine ⟨fun s c hc => ?_, fun s k hs => ?_, rfl, by decide, by decide⟩
  · obtain ⟨hw, hh, hrw, hrh, hncol, hnrow, hrx, hry, hb, hd, he, hn, hs⟩ := sizeRom_fields c (sizeClass_mem hc)
    simp only [State.geom, hc, geomOf, toNat_append_ofNat, hw, hh, hrw, hrh, hncol, hnrow, hrx, hry, hb, hd, he, hn, hs,
      BitVec.toNat_ofNat, Nat.mod_eq_of_lt, Nat.two_pow_pos]
    omega
  · rw [State.geom, State.sizeClass?, classRow_eq_none.2 hs]

/-- Settles O56: a signed field holds every value within 16 bits, and CHR fits 12 bits. -/
theorem walkRegisterViews : Obligations.WalkRegisterViews := by
  rintro s ⟨hrow, hcol, hlastRow, hlastCol, hchr⟩
  have hfield : ∀ x : Int, -1 ≤ x ∧ x ≤ 140 → (BitVec.ofInt 16 x).toInt = x := fun x hx =>
    BitVec.toInt_ofInt_eq_self (by decide) (by omega) (by omega)
  have hchr : s.walk.chr < 2 ^ 12 := lt_of_le_of_lt hchr (by decide)
  rw [State.plCur, State.plLast, BitVec.extractLsb'_append_eq_right, BitVec.extractLsb'_append_eq_left,
    BitVec.extractLsb'_append_eq_right, BitVec.extractLsb'_append_eq_left]
  refine ⟨hfield _ hrow, hfield _ (by omega), hfield _ hlastRow, hfield _ (by omega), ?_⟩
  rw [State.plInfo]
  refine ⟨?_, ?_, ?_, ?_, ?_⟩
  · rw [BitVec.extractLsb'_append_eq_right, BitVec.toNat_ofNat, Nat.mod_eq_of_lt hchr]
  · simp only [BitVec.extractLsb'_append_eq_of_le, Nat.reduceLeDiff, Nat.reduceSub, BitVec.extractLsb'_append_eq_right]
  · simp only [BitVec.getLsbD_append]; rfl
  · simp only [BitVec.extractLsb'_append_eq_of_le, Nat.reduceLeDiff, Nat.reduceSub, BitVec.extractLsb'_append_eq_right]
  · simp only [BitVec.extractLsb'_append_eq_of_le, Nat.reduceLeDiff, Nat.reduceSub]
    rfl

end

section
/-! PROOFS, the host interface (spec/20_memory.md): the address map (R73), refused accesses (R71, R72), accesses while
BUSY (R81, R82) and the data windows (R74, R75). -/

namespace Sys2Proof.Machine

open Claims

/-! ### The address map -/

/-- The k-th register stands at word k (R73). -/
theorem registerMap_address {k : Nat} {l : Location} (h : registerMap[k]? = some l) : addressOf l = 4 * k := by
  have hall : ∀ p ∈ registerMap.zipIdx, addressOf p.1 = 4 * p.2 := by decide
  exact hall (l, k) (List.mk_mem_zipIdx_iff_getElem?.2 h)

theorem addressOf_of_locate {a : Nat} {l : Location} (h : locate a = some l) : addressOf l = a := by
  simp only [locate] at h
  split_ifs at h with h0 h1 h2 h3 h4 h5 h6
  · rw [registerMap_address h]; omega
  all_goals cases h; simp only [addressOf]; omega

theorem locate_addressOf {l : Location} (h : Listed l) : locate (addressOf l) = some l := by
  cases l with
  | id | status | ctrl | cmd | result | size | genS | plCur | plInfo | plLast => rfl
  | geom k =>
    have hall : ∀ k, k < 4 → locate (addressOf (.geom k)) = some (.geom k) := by decide
    exact hall k h
  | gen i =>
    have hi : i < 69 := h
    have hw : (0x00400 + 4 * i) / 4 = 0x100 + i := by omega
    rw [addressOf, locate, if_neg (by omega), hw, if_neg (by omega), if_pos (by omega), Nat.add_sub_cancel_left]
  | rem i =>
    have hi : i < 68 := h
    have hw : (0x00600 + 4 * i) / 4 = 0x180 + i := by omega
    rw [addressOf, locate, if_neg (by omega), hw, if_neg (by omega), if_neg (by omega),
      if_pos (by omega), Nat.add_sub_cancel_left]
  | syn i =>
    have hi : i < 68 := h
    have hw : (0x00800 + 4 * i) / 4 = 0x200 + i := by omega
    rw [addressOf, locate, if_neg (by omega), hw, if_neg (by omega), if_neg (by omega), if_neg (by omega),
      if_pos (by omega), Nat.add_sub_cancel_left]
  | cw i =>
    have hi : i < 2178 := h
    have hw : (0x04000 + 4 * i) / 4 = 0x1000 + i := by omega
    rw [addressOf, locate, if_neg (by omega), hw, if_neg (by omega), if_neg (by omega), if_neg (by omega),
      if_neg (by omega), if_pos ⟨by omega, Nat.add_lt_add_left hi _⟩, Nat.add_sub_cancel_left]
  | grid x y =>
    obtain ⟨hx, hy⟩ := h
    have hw : (0x20000 + 4 * (256 * y + x)) / 4 = 0x8000 + (256 * y + x) := by omega
    have hmod : (256 * y + x) % 256 = x := by omega
    have hdiv : (256 * y + x) / 256 = y := by omega
    have hcw : ¬ 0x8000 + (256 * y + x) < 0x1000 + Config.cwSize := by rw [Config.cwSize]; omega
    rw [addressOf, locate, if_neg (by omega), hw, if_neg (by omega), if_neg (by omega), if_neg (by omega),
      if_neg (by omega), if_neg fun h => hcw h.2, Nat.add_sub_cancel_left, hmod, hdiv, if_pos ⟨by omega, hx, hy⟩]

/-- The address map as an equivalence (R73). -/
theorem locate_eq_some {a : Nat} {l : Location} : locate a = some l ↔ Listed l ∧ addressOf l = a := by
  refine ⟨fun h => ⟨locate_listed h, addressOf_of_locate h⟩, ?_⟩
  rintro ⟨h, rfl⟩
  exact locate_addressOf h

/-- The last listed address is that of GRID[143, 143] (R73). -/
theorem addressOf_le {l : Location} (h : Listed l) : addressOf l ≤ 0x43E3C := by
  cases l with
  | id | status | ctrl | cmd | result | size | genS | plCur | plInfo | plLast => decide
  | geom k | gen k | rem i | syn i | cw i | grid x y => simp only [Listed] at h; simp only [addressOf]; omega

/-- An access is refused when it is not 32 bits wide, is misaligned or reaches no listed address (R71, R72). -/
theorem accept_eq_none {addr : Addr} {width : Width}
    (h : width ≠ .word ∨ addr.toNat % 4 ≠ 0 ∨ ∀ l, Listed l → addressOf l ≠ addr.toNat) : accept addr width = none := by
  rw [Option.eq_none_iff_forall_ne_some]
  intro l hl
  obtain ⟨hword, hloc⟩ := accept_eq_some hl
  rcases h with h | h | h
  · exact h hword
  · rw [locate, if_pos h] at hloc
    cases hloc
  · obtain ⟨hlisted, haddr⟩ := locate_eq_some.1 hloc
    exact h l hlisted haddr

/-- The location's own address reaches it. -/
theorem accept_addressOf {l : Location} (h : Listed l) : accept (BitVec.ofNat 20 (addressOf l)) .word = some l := by
  have hle := addressOf_le h
  rw [accept, BitVec.toNat_ofNat, Nat.mod_eq_of_lt (by omega), locate_addressOf h]

/-- An accepted write to a location that no write can change is ignored (R73). -/
theorem writeAt_of_not_writable {l : Location} (h : ¬ Writable l) (v : Word) (s : State) : writeAt l v s = s := by
  cases l with
  | status | ctrl | cmd | size | cw | grid => exact absurd (by simp [Writable]) h
  | id | result | geom | genS | plCur | plInfo | plLast | gen | rem | syn => rfl

/-! ### Reads while BUSY -/

theorem drawnWhileBusy_iff {l : Location} : l.drawnWhileBusy = true ↔ Drawn l := by
  cases l <;> simp [Location.drawnWhileBusy, Drawn]

/-- A draw leaves the reserved bits 0 and every other bit free (R81). -/
theorem drawMask_eq (l : Location) : l.drawMask = ~~~ reservedBits l := by
  cases l <;> simp [Location.drawMask, reservedBits]

/-- Only CW and GRID can hold no value (R49), and reads of them are draws while BUSY. -/
theorem held_of_not_drawn {l : Location} (h : ¬ Drawn l) (s : State) : ∃ v, s.held l = some v := by
  cases l with
  | cw | grid => exact absurd (drawnWhileBusy_iff.1 rfl) h
  | id | status | ctrl | cmd | size | geom | result | genS | plCur | plInfo | plLast | gen | rem | syn => exact ⟨_, rfl⟩

theorem hostRead_drawn {addr : Addr} {l : Location} {s : State} (hl : accept addr .word = some l)
    (hb : s.busy = true) (hd : Drawn l) : hostRead addr .word s = drawRead l s := by
  simp only [hostRead, hl, hb, drawnWhileBusy_iff.2 hd, Bool.and_self, if_true]

/-! ### The data windows -/

theorem accept_cw {i : Nat} (hi : i < 2178) : accept (BitVec.ofNat 20 (0x04000 + 4 * i)) .word = some (.cw i) :=
  accept_addressOf (l := .cw i) hi

theorem accept_grid {x y : Nat} (hx : x < 144) (hy : y < 144) :
    accept (BitVec.ofNat 20 (0x20000 + 4 * (256 * y + x))) .word = some (.grid x y) :=
  accept_addressOf (l := .grid x y) ⟨hx, hy⟩

theorem hostRead_idle {addr : Addr} {l : Location} {v : Word} {s : State} (hl : accept addr .word = some l)
    (hb : s.busy = false) (hv : s.held l = some v) : (hostRead addr .word s).response = some (.readDone v false) := by
  rw [hostRead_of_held hl (by rw [hb, Bool.false_and]) hv]

/-- The byte stored for a CW write reads back as bits 7:0 of the word (R74). -/
theorem setWidth_setWidth_byte (v : Word) : (v.setWidth 8).setWidth 32 = v &&& 0xFF#32 := by
  rw [BitVec.setWidth_eq_append (by decide)]
  exact (BitVec.and_setWidth_allOnes 24 8 v).symm

/-- The byte stored for a GRID write is bit 0 of the word (R75). -/
theorem bitByte_eq (v : Word) : bitByte (v.getLsbD 0) = (v &&& 1#32).setWidth 8 := by
  rw [BitVec.and_one_eq_setWidth_ofBool_getLsbD]
  cases v.getLsbD 0 <;> rfl

theorem setWidth_bitByte (v : Word) : (bitByte (v.getLsbD 0)).setWidth 32 = v &&& 1#32 := by
  rw [bitByte_eq, setWidth_setWidth_byte, BitVec.and_assoc]
  rfl

end Sys2Proof.Machine

open Sys2Proof Sys2Proof.Machine Sys2Proof.Claims

/-- Settles O46: the drawn locations are those of R81, the others hold a value, and BUSY guards the four writes. -/
theorem busyReadsAreDrawsAndWritesDropped : Obligations.BusyReadsAreDrawsAndWritesDropped := by
  refine ⟨fun s addr l hb hl => ⟨fun hd => ?_, fun hd => ?_⟩, fun s addr v l hb hl hw => ?_⟩
  · rw [hostRead_drawn hl hb hd, drawRead, drawMask_eq]
  · obtain ⟨v, hv⟩ := held_of_not_drawn hd s
    have hdef : l.drawnWhileBusy = false := Bool.eq_false_iff.2 (mt drawnWhileBusy_iff.1 hd)
    exact ⟨v, hv, hostRead_of_held hl (by rw [hdef, Bool.and_false]) hv⟩
  · rw [hostWrite_of_accept hl]
    rcases hw with rfl | rfl | ⟨i, rfl⟩ | ⟨x, y, rfl⟩ <;> rw [writeAt, unlessBusy_busy hb]

/-- Settles O51: by the read after a write of each memory; grid cells have different keys. -/
theorem dataWindowsHoldWhatIsWritten : Obligations.DataWindowsHoldWhatIsWritten := by
  refine ⟨fun s i v hi hb => ?_, fun s x y v hx hy hb => ?_⟩
  · have hl := accept_cw hi
    rw [hostWrite_of_accept hl, writeAt, unlessBusy_idle hb]
    refine ⟨_, rfl, fun j => Memory.read_write s.cw i j _, hostRead_idle hl hb ?_⟩
    rw [held_response, State.held, State.cwAt, setCw_cw, Memory.read_write_same, Option.map_some,
      setWidth_setWidth_byte]
  · have hl := accept_grid hx hy
    rw [hostWrite_of_accept hl, writeAt, unlessBusy_idle hb]
    refine ⟨_, rfl, fun x' y' hx' hy' => ?_, hostRead_idle hl hb ?_⟩
    · have hkey : gridKey x' y' = gridKey x y ↔ x' = x ∧ y' = y :=
        ⟨gridKey_inj (by omega) (by omega), by rintro ⟨rfl, rfl⟩; rfl⟩
      rw [setGrid_grid, Memory.read_write, bitByte_eq]
      simp only [hkey]
      rfl
    · rw [held_response, State.held, State.gridAt, setGrid_grid, Memory.read_write_same, Option.map_some,
        setWidth_bitByte]

/-- Settles O44: by the map in both directions, from an address to its location and back. -/
theorem addressMapIsExact : Obligations.AddressMapIsExact := by
  refine ⟨fun a l => locate_eq_some, rfl, fun l => addressOf_le, fun s addr v l hl hw => ?_⟩
  rw [hostWrite_of_accept hl, writeAt_of_not_writable hw]

/-- Settles O45: such an access reaches no location. -/
theorem refusedAccessSetsBusErr : Obligations.RefusedAccessSetsBusErr := by
  intro s addr width v h
  have hnone := accept_eq_none h
  rw [hostRead, hostWrite, hnone]
  exact ⟨rfl, rfl⟩

end

section
/-! PROOFS, the host interface: no command writes outside its write set (R87). One rule per state operation says when a
write set allows it; a command's body is then a chain of allowed operations. -/

namespace Sys2Proof.Machine

open Claims

/-! ### The write sets -/

/-- `t` differs from `s` only inside the write set of command `i` under the class `c?` (R87, R27, R29, R41, R168). -/
structure KeepsTo (c? : Option SizeClass) (i : Instr) (s t : State) : Prop where
  cw : ∀ key, writesCw c? i key = false → Memory.read t.cw key = Memory.read s.cw key
  grid : ∀ key, writesGrid c? i key = false → Memory.read t.grid key = Memory.read s.grid key
  result : writesResult i = false → t.result = s.result
  gen : writesGen i = false → t.gen = s.gen ∧ t.genS = s.genS
  rem : (∀ k, i ≠ .rsRem k) → t.rem = s.rem
  syn : (∀ k, i ≠ .rsSyn k) → t.syn = s.syn
  zero : (∀ k, i ≠ .rsRem k ∧ i ≠ .rsSyn k) → t.zero = s.zero
  walk : writesWalk i = false → t.walk = s.walk
  fixed : writesFixed i = false → t.fixed = s.fixed

section KeepsTo

variable {c? : Option SizeClass} {i : Instr} {s t u : State}

theorem KeepsTo.refl (c? : Option SizeClass) (i : Instr) (s : State) : KeepsTo c? i s s :=
  ⟨fun _ _ => rfl, fun _ _ => rfl, fun _ => rfl, fun _ => ⟨rfl, rfl⟩, fun _ => rfl, fun _ => rfl, fun _ => rfl,
    fun _ => rfl, fun _ => rfl⟩

theorem KeepsTo.trans (hst : KeepsTo c? i s t) (htu : KeepsTo c? i t u) : KeepsTo c? i s u where
  cw key h := (htu.cw key h).trans (hst.cw key h)
  grid key h := (htu.grid key h).trans (hst.grid key h)
  result h := (htu.result h).trans (hst.result h)
  gen h := ⟨(htu.gen h).1.trans (hst.gen h).1, (htu.gen h).2.trans (hst.gen h).2⟩
  rem h := (htu.rem h).trans (hst.rem h)
  syn h := (htu.syn h).trans (hst.syn h)
  zero h := (htu.zero h).trans (hst.zero h)
  walk h := (htu.walk h).trans (hst.walk h)
  fixed h := (htu.fixed h).trans (hst.fixed h)

theorem KeepsTo.setResult (h : writesResult i = true) (v : Byte) : KeepsTo c? i s (s.setResult v) :=
  { KeepsTo.refl c? i s with result := fun hn => nomatch h.symm.trans hn }

theorem KeepsTo.setGen (h : writesGen i = true) (d : BitVec 7) (g : Vector Byte 69) : KeepsTo c? i s (s.setGen d g) :=
  { KeepsTo.refl c? i s with gen := fun hn => nomatch h.symm.trans hn }

theorem KeepsTo.setRem (k : Nat) (r : Vector Byte 68) (z : Bool) : KeepsTo c? (.rsRem k) s (s.setRem r z) :=
  { KeepsTo.refl c? (.rsRem k) s with
    rem := fun hn => absurd rfl (hn k)
    zero := fun hn => absurd rfl (hn k).1 }

theorem KeepsTo.setSyn (k : Nat) (y : Vector Byte 68) (z : Bool) : KeepsTo c? (.rsSyn k) s (s.setSyn y z) :=
  { KeepsTo.refl c? (.rsSyn k) s with
    syn := fun hn => absurd rfl (hn k)
    zero := fun hn => absurd rfl (hn k).2 }

theorem KeepsTo.setWalk (h : writesWalk i = true) (w : Walk) : KeepsTo c? i s (s.setWalk w) :=
  { KeepsTo.refl c? i s with walk := fun hn => nomatch h.symm.trans hn }

theorem KeepsTo.setFixed (h : writesFixed i = true) (b : Bool) : KeepsTo c? i s (s.setFixed b) :=
  { KeepsTo.refl c? i s with fixed := fun hn => nomatch h.symm.trans hn }

/-- Cells of CW inside the write set may be written. -/
theorem KeepsTo.writeCw {cells : List Host.Cell} (h : ∀ cell ∈ cells, writesCw c? i cell.1 = true) :
    KeepsTo c? i s (s.setCw (Memory.writeAll s.cw cells)) :=
  { KeepsTo.refl c? i s with
    cw := fun _ hn => Memory.read_writeAll_of_not_mem _ _ _ fun cell hcell hkey =>
      nomatch (h cell hcell).symm.trans ((congrArg (writesCw c? i) hkey).trans hn) }

/-- Cells of GRID inside the write set may be written. -/
theorem KeepsTo.writeGrid {cells : List Host.Cell} (h : ∀ cell ∈ cells, writesGrid c? i cell.1 = true) :
    KeepsTo c? i s (s.setGrid (Memory.writeAll s.grid cells)) :=
  { KeepsTo.refl c? i s with
    grid := fun _ hn => Memory.read_writeAll_of_not_mem _ _ _ fun cell hcell hkey =>
      nomatch (h cell hcell).symm.trans ((congrArg (writesGrid c? i) hkey).trans hn) }

/-- The whole GRID may be written by a command whose write set it is. -/
theorem KeepsTo.setGrid (h : ∀ key, writesGrid c? i key = true) (m : Memory) : KeepsTo c? i s (s.setGrid m) :=
  { KeepsTo.refl c? i s with grid := fun key hn => nomatch (h key).symm.trans hn }

end KeepsTo

/-! ### The cells that commands write -/

/-- The symbol of every class fits into 8-bit coordinates, and its regions are not empty (R46). -/
theorem sizeRom_regionSize : ∀ c ∈ sizeRom, 0 < c.rw ∧ 0 < c.rh ∧ c.w < 256 := by decide

theorem gridKey_mod {x : Nat} (hx : x < 256) (y : Nat) : gridKey x y % 256 = x := by
  rw [gridKey]; omega

theorem gridKey_div {x : Nat} (hx : x < 256) (y : Nat) : gridKey x y / 256 = y := by
  rw [gridKey]; omega

theorem isFinderKey_gridKey {c : SizeClass} (hc : c ∈ sizeRom) {x y : Nat} {b : Bool} (hx : x < c.w) (hy : y < c.h)
    (hf : finder? c x y = some b) : isFinderKey c (gridKey x y) = true := by
  obtain ⟨-, -, hw⟩ := sizeRom_regionSize c hc
  have hx' : x < 256 := hx.trans hw
  simp [isFinderKey, inSymbol, gridKey_mod hx', gridKey_div hx', hx, hy, hf]

theorem isFinderKey_finderWrites {c : SizeClass} (hc : c ∈ sizeRom) :
    ∀ cell ∈ finderWrites c, isFinderKey c cell.1 = true := by
  intro w hw
  simp only [finderWrites, List.mem_flatMap, List.mem_filterMap, List.mem_range, Option.map_eq_some_iff] at hw
  obtain ⟨y, hy, x, hx, b, hb, rfl⟩ := hw
  exact isFinderKey_gridKey hc hx hy hb

/-- Inside its region a translated coordinate is 1 to `len`: the gap translation skips the finder lines (R154). -/
theorem gap_mod {len k : Nat} (hlen : 0 < len) : (k + 2 * (k / len) + 1) % (len + 2) = k % len + 1 := by
  have hlt := Nat.mod_lt k hlen
  have hk : k + 2 * (k / len) + 1 = (k % len + 1) + (len + 2) * (k / len) := by
    have := Nat.mod_add_div k len
    rw [Nat.add_mul]; omega
  rw [hk, Nat.add_mul_mod_self_left, Nat.mod_eq_of_lt (by omega)]

/-- The module of a mapping-matrix cell is no finder cell (R151, R154). -/
theorem finder?_module {c : SizeClass} (hc : c ∈ sizeRom) (r k : Nat) :
    finder? c (moduleX c k) (moduleY c r) = none := by
  obtain ⟨hrw, hrh, -⟩ := sizeRom_regionSize c hc
  have hk := Nat.mod_lt k hrw
  have hr := Nat.mod_lt r hrh
  rw [finder?, moduleX, moduleY, gap_mod hrw, gap_mod hrh]
  simp only [Nat.add_eq_zero_iff, Nat.one_ne_zero, and_false, if_false, Nat.add_right_cancel_iff, hk.ne, hr.ne]

/-- The module of a mapping-matrix cell is a data cell of the symbol (R151, R154). -/
theorem isDataKey_cellKey {c : SizeClass} (hc : c ∈ sizeRom) {cell : MapCell} (h : inMatrix c cell.1 cell.2 = true) :
    isDataKey c (cellKey c cell) = true := by
  obtain ⟨hr, hk⟩ := inMatrix_iff.1 h
  obtain ⟨hw, hh, hncol, hnrow⟩ := sizeRom_regions c hc
  obtain ⟨-, -, hw256⟩ := sizeRom_regionSize c hc
  have hx : moduleX c cell.2.toNat < c.w := by rw [hw]; exact gap_lt (by omega)
  have hy : moduleY c cell.1.toNat < c.h := by rw [hh]; exact gap_lt (by omega)
  have hx' := hx.trans hw256
  simp [isDataKey, inSymbol, cellKey, gridKey_mod hx', gridKey_div hx', hx, hy, finder?_module hc]

theorem isDataKey_placeWrites {c : SizeClass} (hc : c ∈ sizeRom) {cells : List MapCell} {v : Byte}
    (h : ∀ cell ∈ cells, inMatrix c cell.1 cell.2 = true) : ∀ w ∈ placeWrites c cells v, isDataKey c w.1 = true := by
  intro w hw
  rw [placeWrites, ← List.map_uncurry_zip_eq_zipWith, List.mem_map] at hw
  obtain ⟨⟨cell, j⟩, hmem, rfl⟩ := hw
  exact isDataKey_cellKey hc (h cell (List.of_mem_zip hmem).1)

theorem fixupCells_inMatrix {c : SizeClass} (hc : c ∈ sizeRom) : ∀ p ∈ fixupCells c, inMatrix c p.1.1 p.1.2 = true := by
  obtain ⟨hrow, -, hcol, -⟩ := sizeRom_bounds c hc
  intro p hp
  rw [inMatrix_iff]
  simp only [fixupCells, List.mem_cons, List.not_mem_nil, or_false] at hp
  rcases hp with rfl | rfl | rfl | rfl <;> dsimp only <;> omega

theorem isDataKey_fixupWrites {c : SizeClass} (hc : c ∈ sizeRom) : ∀ w ∈ fixupWrites c, isDataKey c w.1 = true := by
  intro w hw
  obtain ⟨p, hp, rfl⟩ := List.mem_map.1 hw
  exact isDataKey_cellKey hc (fixupCells_inMatrix hc p hp)

/-- The correction codewords of a block stand in CW[D..N-1] (R48, R125). -/
theorem eccIndices_bounds {c : SizeClass} (hc : c ∈ sizeRom) {k : Nat} (hk : k < c.b) {j : Nat}
    (hj : j ∈ eccIndices c k) : c.d ≤ j ∧ j < c.n := by
  obtain ⟨-, -, -, -, -, -, -, hn, -⟩ := sizeRom_bounds c hc
  obtain ⟨i, hi, rfl⟩ := List.mem_map.1 hj
  have hmul : (i + 1) * c.b ≤ c.s * c.b := Nat.mul_le_mul_right _ (List.mem_range.1 hi)
  rw [Nat.add_mul, Nat.mul_comm c.s] at hmul
  omega

theorem encodeWrites_bounds {c : SizeClass} (hc : c ∈ sizeRom) {g : List Byte} {cw : Memory} {ks : List Nat}
    {ws : List Host.Cell} (hks : ∀ k ∈ ks, k < c.b) (h : encodeWrites c g cw ks = some ws) :
    ∀ w ∈ ws, c.d ≤ w.1 ∧ w.1 < c.n := by
  induction ks generalizing ws with
  | nil => cases h; simp
  | cons k ks ih =>
    obtain ⟨hk, hks⟩ := List.forall_mem_cons.1 hks
    obtain ⟨block, rest, hblock, hrest, rfl⟩ := encodeWrites_cons_eq_some.1 h
    rw [blockWrites, Option.map_eq_some_iff] at hblock
    obtain ⟨ds, -, rfl⟩ := hblock
    intro w hw
    rcases List.mem_append.1 hw with hw | hw
    · exact eccIndices_bounds hc hk (List.of_mem_zip hw).1
    · exact ih hks hrest w hw

/-! ### The bodies of the commands -/

theorem writesCw_ecc {c : SizeClass} {i : Instr} (hi : i = .rsEnc ∨ i = .symbol) {key : Nat}
    (h : c.d ≤ key ∧ key < c.n) : writesCw (some c) i key = true := by
  rcases hi with rfl | rfl <;> simp [writesCw, h]

theorem keepsTo_rsEncBody {c : SizeClass} {i : Instr} {s t : State} (hc : c ∈ sizeRom)
    (hi : i = .rsEnc ∨ i = .symbol) (h : rsEncBody c s = .next t) : KeepsTo (some c) i s t := by
  rcases rsEncBody_cases c s with ⟨_, he⟩ | ⟨ws, hws, he⟩
  · cases he.symm.trans h
  · cases he.symm.trans h
    exact .writeCw fun cell hcell =>
      writesCw_ecc hi (encodeWrites_bounds hc (fun k hk => List.mem_range.1 hk) hws cell hcell)

/-- What the walk commands share: their write set holds the data cells and the walk (R87). -/
def PlacesCodewords (i : Instr) : Prop :=
  writesWalk i = true ∧ ∀ c key, isDataKey c key = true → writesGrid (some c) i key = true

theorem placesCodewords {i : Instr} (h : i = .plStep ∨ i = .plRun ∨ i = .plFixup ∨ i = .symbol) :
    PlacesCodewords i := by
  rcases h with rfl | rfl | rfl | rfl <;> exact ⟨rfl, fun c key h => by simp [writesGrid, h]⟩

section Walk

variable {c : SizeClass} {i : Instr} {s t : State} (hc : c ∈ sizeRom) (hi : PlacesCodewords i)

include hi

theorem keepsTo_endWalk (h : endWalk c s = .next t) : KeepsTo (some c) i s t := by
  obtain ⟨_, rfl⟩ := endWalk_eq_next.1 h
  exact .setWalk hi.1 _

include hc

theorem keepsTo_microStep (h : microStep c s = .next t) : KeepsTo (some c) i s t := by
  obtain ⟨hwalk, hgrid⟩ := hi
  rcases microStep_cases c s with ⟨_, he⟩ | ⟨w, _, _, he⟩ | ⟨w, l, _, _, _, he⟩ | ⟨w, l, v, hw, hl, _, he⟩
  · cases he.symm.trans h
  · cases he.symm.trans h; exact .setWalk hwalk w
  · cases he.symm.trans h
  · cases he.symm.trans h
    obtain ⟨_, ⟨hnone, _⟩ | ⟨l', w1, hl', hplace, _⟩⟩ := walk_microStep_eq_some.1 hw
    · cases hl.symm.trans hnone
    · cases hl.symm.trans hl'
      obtain ⟨_, m, m', _, hassign, _⟩ := place_eq_some.1 hplace
      exact (KeepsTo.writeGrid fun cell hcell =>
        hgrid c _ (isDataKey_placeWrites hc (assignCells_inMatrix hassign) cell hcell)).trans (.setWalk hwalk w)

theorem keepsTo_repeatUntil {stop : Walk → Bool} {n : Nat} (h : repeatUntil c stop n s = .next t) :
    KeepsTo (some c) i s t :=
  (repeatUntil_invariant (KeepsTo (some c) i s) (fun _ _ hu hm => hu.trans (keepsTo_microStep hc hi hm)) (.refl _ _ _)
    h).1

theorem keepsTo_plStepBody (h : plStepBody c s = .next t) : KeepsTo (some c) i s t := by
  obtain ⟨s1, s2, h1, h2, h3⟩ := plStepBody_eq_next.1 h
  have k1 := keepsTo_repeatUntil hc hi h1
  have k2 : KeepsTo (some c) i s1 s2 := by
    split at h2
    · exact keepsTo_repeatUntil hc hi h2
    · exact h2 ▸ .refl _ _ _
  have k3 : KeepsTo (some c) i s2 t := by
    split at h3
    · exact keepsTo_endWalk hi h3
    · exact h3 ▸ .refl _ _ _
  exact k1.trans (k2.trans k3)

theorem keepsTo_plFixupBody (hfixed : writesFixed i = true) (h : plFixupBody c s = .next t) :
    KeepsTo (some c) i s t := by
  rcases plFixupBody_cases c s with ⟨_, he⟩ | ⟨m, _, ⟨_, he⟩ | ⟨_, he⟩⟩
  · cases he.symm.trans h
  · cases he.symm.trans h; exact .setFixed hfixed _
  · cases he.symm.trans h
    have hgrid := KeepsTo.writeGrid (c? := some c) (s := s) fun cell hcell =>
      hi.2 c _ (isDataKey_fixupWrites hc cell hcell)
    exact hgrid.trans ((KeepsTo.setWalk hi.1 _).trans (.setFixed hfixed _))

theorem keepsTo_plRunBody (hfixed : writesFixed i = true) (h : plRunBody c s = .next t) : KeepsTo (some c) i s t := by
  obtain ⟨s1, s2, h1, h2, h3⟩ := plRunBody_eq_next.1 h
  have hstart : KeepsTo (some c) i s (plStartBody s) := (KeepsTo.setWalk hi.1 _).trans (.setFixed hfixed _)
  exact hstart.trans ((keepsTo_repeatUntil hc hi h1).trans
    ((keepsTo_endWalk hi h2).trans (keepsTo_plFixupBody hc hi hfixed h3)))

end Walk

/-- What a command makes of the state differs from it inside the command's write set only. -/
theorem keepsTo_performs {i : Instr} {s u : State} (h : Performs i s u) : KeepsTo s.sizeClass? i s u := by
  cases i with
  | nop => rw [show u = s from h]; exact .refl _ _ _
  | gfAdd | gfMul | gfDiv | gfExp | gfLog => obtain ⟨v, rfl⟩ := h; exact .setResult rfl v
  | rsGen n => obtain ⟨_, rfl⟩ := h; exact .setGen rfl _ _
  | rsEnc => obtain ⟨c, hc, _, h⟩ := h; rw [hc]; exact keepsTo_rsEncBody (sizeClass_mem hc) (.inl rfl) h
  | rsRem k => obtain ⟨r, z, rfl⟩ := h; exact .setRem k r z
  | rsSyn k => obtain ⟨y, z, rfl⟩ := h; exact .setSyn k y z
  | plClear => rw [show u = _ from h]; exact .setGrid (fun _ => rfl) _
  | plFinder =>
    obtain ⟨c, hc, rfl⟩ := h
    rw [hc]
    exact .writeGrid (isFinderKey_finderWrites (sizeClass_mem hc))
  | plStart => obtain ⟨c, _, rfl⟩ := h; exact (KeepsTo.setWalk rfl _).trans (.setFixed rfl _)
  | plStep =>
    obtain ⟨c, hc, _, h⟩ := h
    rw [hc]
    exact keepsTo_plStepBody (sizeClass_mem hc) (placesCodewords (by simp)) h
  | plRun =>
    obtain ⟨c, hc, h⟩ := h
    rw [hc]
    exact keepsTo_plRunBody (sizeClass_mem hc) (placesCodewords (by simp)) rfl h
  | plFixup =>
    obtain ⟨c, hc, _, h⟩ := h
    rw [hc]
    exact keepsTo_plFixupBody (sizeClass_mem hc) (placesCodewords (by simp)) rfl h
  | symbol =>
    obtain ⟨c, u1, hc, h1, h⟩ := h
    rw [hc]
    have hgen : KeepsTo (some c) .symbol s (rsGenBody c.s s) := .setGen rfl _ _
    have henc := keepsTo_rsEncBody (sizeClass_mem hc) (.inr rfl) h1
    have hgrid : KeepsTo (some c) .symbol u1 (plFinderBody c (plClearBody u1)) :=
      (KeepsTo.setGrid (fun _ => rfl) _).trans (.setGrid (fun _ => rfl) _)
    have hrun := keepsTo_plRunBody (i := .symbol) (sizeClass_mem hc) (placesCodewords (by simp)) rfl h
    exact hgen.trans (henc.trans (hgrid.trans hrun))

/-- The registers that no command writes. -/
theorem fields_of_outside {s u : State} (h : u.outside = s.outside) : u.ovr = s.ovr ∧ u.busErr = s.busErr ∧
    u.ie = s.ie ∧ u.cmd = s.cmd ∧ u.sizeSel = s.sizeSel ∧ u.response = s.response ∧ u.draws = s.draws ∧
    u.program = s.program ∧ u.hostNext = s.hostNext ∧ u.turns = s.turns := by
  simp only [State.outside, State.mk.injEq] at h
  simp only [h, and_self]

/-- A command that answers leaves the state as it was, or what it has made of it, but for the completion: DONE, ERR,
ERRCODE and PENDING (R210, R213). -/
theorem exec_eq_next_completion {i : Instr} {s t : State} (h : exec i s = .next t) :
    ∃ u e code, KeepsTo s.sizeClass? i s u ∧ u.outside = s.outside ∧
      t = { u with done := true, err := e, errCode := code, pending := none } := by
  rcases exec_eq_next h with ⟨code, he⟩ | ⟨u, hu, rfl⟩
  · exact ⟨s, true, code, .refl _ _ _, rfl, raiseError_eq_next.1 he⟩
  · exact ⟨u, u.err, .none, keepsTo_performs hu, performs_outside hu, rfl⟩

end Sys2Proof.Machine

open Sys2Proof Sys2Proof.Machine

/-- Settles O38: a chain of state operations, each of which the command's write set allows. -/
theorem commandsKeepToTheirWriteSets : Obligations.CommandsKeepToTheirWriteSets := by
  intro i s t h
  obtain ⟨u, e, code, hk, hout, rfl⟩ := exec_eq_next_completion h
  obtain ⟨hovr, hbus, hie, hcmd, hsize, hrest⟩ := fields_of_outside hout
  exact ⟨hk.cw, hk.grid, hk.result, hk.gen, hk.rem, hk.syn, hk.zero, hk.walk, hk.fixed, hovr, hbus, hie, hcmd, hsize,
    rfl, hrest⟩

end

section
/-! PROOFS, the host interface: a command sees the state at its issue (R80). The bodies of the commands carry the status
bits, IE and the host's own part along without reading them, and no host transaction but a soft reset changes anything
else while BUSY. -/

namespace Sys2Proof.Machine

open Claims

/-- `s` with the status bits, IE and the host's own part of `b`: all that `SameBlock` leaves open. -/
def State.lendStatus (b s : State) : State :=
  { s with done := b.done, err := b.err, ovr := b.ovr, busErr := b.busErr, errCode := b.errCode, ie := b.ie,
           response := b.response, draws := b.draws, program := b.program, hostNext := b.hostNext, turns := b.turns }

theorem sameBlock_iff {s' s : State} : SameBlock s' s ↔ s' = s'.lendStatus s := by
  obtain ⟨⟩ := s'
  simp only [SameBlock, State.lendStatus, State.mk.injEq, true_and, and_true]
  tauto

/-- Apply a function to the next state of a result. -/
def mapNext (g : State → State) : Result → Result
  | .next s => .next (g s)
  | .fault x => .fault x
  | .refused x => .refused x

theorem mapNext_eq_next {g : State → State} {r : Result} {t : State} :
    mapNext g r = .next t ↔ ∃ u, r = .next u ∧ g u = t := by
  cases r <;> simp [mapNext]

theorem mapNext_eq_fault {g : State → State} {r : Result} {x : Fault} : mapNext g r = .fault x ↔ r = .fault x := by
  cases r <;> simp [mapNext]

/-! ### The bodies of the commands -/

/-- The body makes of a state with another status what it makes of the state, with that status. -/
def CarriesStatus (f : State → Result) : Prop :=
  ∀ b s : State, f (b.lendStatus s) = mapNext b.lendStatus (f s)

theorem CarriesStatus.next {g : State → State} (hg : ∀ b s : State, g (b.lendStatus s) = b.lendStatus (g s)) :
    CarriesStatus fun s => .next (g s) :=
  fun b s => congrArg Host.Outcome.next (hg b s)

theorem CarriesStatus.andThen {f g : State → Result} (hf : CarriesStatus f) (hg : CarriesStatus g) :
    CarriesStatus fun s => andThen (f s) g := by
  intro b s
  simp only [hf b s]
  cases f s with
  | next u => exact hg b u
  | fault x | refused x => rfl

theorem CarriesStatus.ite {p : State → Prop} [DecidablePred p] {f g : State → Result}
    (hp : ∀ b s : State, p (b.lendStatus s) ↔ p s) (hf : CarriesStatus f) (hg : CarriesStatus g) :
    CarriesStatus fun s => if p s then f s else g s := by
  intro b s
  by_cases h : p s
  · simp only [h, (hp b s).2 h, if_true, hf b s]
  · simp only [h, mt (hp b s).1 h, if_false, hg b s]

section Bodies

variable (b s : State) (c : SizeClass)

@[simp] theorem lendStatus_cw : (b.lendStatus s).cw = s.cw := rfl
@[simp] theorem lendStatus_walk : (b.lendStatus s).walk = s.walk := rfl
@[simp] theorem lendStatus_genCoeffs (deg : Nat) : (b.lendStatus s).genCoeffs deg = s.genCoeffs deg := rfl
@[simp] theorem lendStatus_cwAt (i : Nat) : (b.lendStatus s).cwAt i = s.cwAt i := rfl
@[simp] theorem lendStatus_sizeClass : (b.lendStatus s).sizeClass? = s.sizeClass? := rfl

theorem carriesStatus_rsEncBody : CarriesStatus (rsEncBody c) := by
  intro b s
  simp only [rsEncBody, lendStatus_cw, lendStatus_genCoeffs]
  cases encodeWrites c (s.genCoeffs c.s) s.cw (List.range c.b) <;> rfl

theorem carriesStatus_placeCodeword (l : Layout) : CarriesStatus (placeCodeword c l) := by
  intro b s
  simp only [placeCodeword, lendStatus_walk, lendStatus_cwAt]
  cases s.walk.place c l with
  | none => rfl
  | some w => cases s.cwAt s.walk.chr <;> rfl

theorem carriesStatus_microStep : CarriesStatus (microStep c) := by
  refine .ite (fun _ _ => Iff.rfl) (fun _ _ => rfl) fun b s => ?_
  rw [lendStatus_walk]
  cases s.walk.select c with
  | none => rfl
  | some l => exact (carriesStatus_placeCodeword c l).andThen (.next fun _ _ => rfl) b s

theorem carriesStatus_repeatUntil (stop : Walk → Bool) (n : Nat) : CarriesStatus (repeatUntil c stop n) := by
  induction n with
  | zero => exact fun _ _ => rfl
  | succ n ih => exact (carriesStatus_microStep c).andThen (.ite (fun _ _ => Iff.rfl) (.next fun _ _ => rfl) ih)

theorem carriesStatus_endWalk : CarriesStatus (endWalk c) :=
  .ite (fun _ _ => Iff.rfl) (.next fun _ _ => rfl) fun _ _ => rfl

theorem carriesStatus_plFixupBody : CarriesStatus (plFixupBody c) := by
  intro b s
  simp only [plFixupBody, lendStatus_walk]
  cases s.walk.mask with
  | none => rfl
  | some m => dsimp only; split_ifs <;> rfl

theorem carriesStatus_plStepBody : CarriesStatus (plStepBody c) := by
  refine .andThen (fun b s => carriesStatus_repeatUntil c _ _ b s) (.andThen (.ite (fun _ _ => Iff.rfl)
    (fun b s => carriesStatus_repeatUntil c _ _ b s) (.next fun _ _ => rfl)) ?_)
  exact .ite (fun _ _ => Iff.rfl) (carriesStatus_endWalk c) (.next fun _ _ => rfl)

theorem carriesStatus_plRunBody : CarriesStatus (plRunBody c) :=
  .andThen (fun b s => carriesStatus_repeatUntil c _ _ b (plStartBody s))
    ((carriesStatus_endWalk c).andThen (carriesStatus_plFixupBody c))

/-- The parts of SYMBOL before its completion (R200). -/
theorem carriesStatus_symbolBody : CarriesStatus fun s =>
    andThen (rsEncBody c (rsGenBody c.s s)) fun s1 => plRunBody c (plFinderBody c (plClearBody s1)) :=
  .andThen (fun b s => carriesStatus_rsEncBody c b (rsGenBody c.s s))
    fun b s => carriesStatus_plRunBody c b (plFinderBody c (plClearBody s))

/-! ### Completion -/

/-- What a command that has completed leaves: the block without its status, and ERRCODE. -/
def State.left (t : State) : State := ({ State.reset with errCode := t.errCode } : State).lendStatus t

theorem left_eq_iff {t' t : State} : t'.left = t.left ↔ SameBlock t' t ∧ t'.errCode = t.errCode := by
  simp only [State.left, State.lendStatus, State.mk.injEq, SameBlock]
  tauto

/-- Two results with the same outcome: next states that leave the same, or the same stop. -/
def SameOutcome (r' r : Result) : Prop := mapNext State.left r' = mapNext State.left r

theorem sameOutcome_ite {p' p : Prop} [Decidable p'] [Decidable p] {x' x y' y : Result} (hp : p' ↔ p)
    (hx : SameOutcome x' x) (hy : SameOutcome y' y) :
    SameOutcome (if p' then x' else y') (if p then x else y) := by
  by_cases h : p
  · rwa [if_pos h, if_pos (hp.2 h)]
  · rwa [if_neg h, if_neg (mt hp.1 h)]

theorem sameOutcome_andThen_succeed {f : State → Result} (hf : CarriesStatus f) :
    SameOutcome (andThen (f (b.lendStatus s)) succeed) (andThen (f s) succeed) := by
  rw [hf b s]
  cases f s <;> rfl

theorem sameOutcome_withClass {f' f : SizeClass → Result} (h : ∀ c, SameOutcome (f' c) (f c)) :
    SameOutcome (withClass (b.lendStatus s) f') (withClass s f) := by
  simp only [withClass, lendStatus_sizeClass]
  cases s.sizeClass? with
  | none => rfl
  | some c => exact h c

theorem sameOutcome_withBlock (k : Nat) {f' f : SizeClass → List Byte → Result}
    (h : ∀ c cs, SameOutcome (f' c cs) (f c cs)) :
    SameOutcome (withBlock k (b.lendStatus s) f') (withBlock k s f) := by
  refine sameOutcome_withClass b s fun c => sameOutcome_ite Iff.rfl rfl (sameOutcome_ite Iff.rfl rfl ?_)
  rw [lendStatus_cw]
  cases Memory.readAll s.cw (blockIndices c k) with
  | none => rfl
  | some cs => exact h c cs

/-- The outcome of a command does not depend on the status, IE and the host's own part. -/
theorem sameOutcome_exec (i : Instr) : SameOutcome (exec i (b.lendStatus s)) (exec i s) := by
  cases i with
  | nop | gfAdd | gfMul | gfExp | plClear => rfl
  | gfDiv x y => simp only [exec, execGfDiv]; cases gfDiv x y <;> rfl
  | gfLog x => simp only [exec, execGfLog]; cases logRom x <;> rfl
  | rsGen n => simp only [exec, execRsGen]; split_ifs <;> rfl
  | rsEnc =>
    exact sameOutcome_withClass b s fun c => sameOutcome_ite Iff.rfl rfl
      (sameOutcome_andThen_succeed b s (carriesStatus_rsEncBody c))
  | rsRem k => exact sameOutcome_withBlock b s k fun _ _ => rfl
  | rsSyn k => exact sameOutcome_withBlock b s k fun _ _ => rfl
  | plFinder | plStart => exact sameOutcome_withClass b s fun _ => rfl
  | plStep =>
    refine sameOutcome_withClass b s fun c => ?_
    rw [lendStatus_walk]
    cases s.walk.wstate with
    | idle | done => rfl
    | active => exact sameOutcome_andThen_succeed b s (carriesStatus_plStepBody c)
  | plRun =>
    exact sameOutcome_withClass b s fun c => sameOutcome_andThen_succeed b s (carriesStatus_plRunBody c)
  | plFixup =>
    exact sameOutcome_withClass b s fun c => sameOutcome_ite Iff.rfl rfl
      (sameOutcome_andThen_succeed b s (carriesStatus_plFixupBody c))
  | symbol =>
    refine sameOutcome_withClass b s fun c => ?_
    simp only [← andThen_assoc]
    exact sameOutcome_andThen_succeed b s (carriesStatus_symbolBody c)

end Bodies

/-- The outcome of a pending word is the same in two states that agree on the block. -/
theorem sameOutcome_engineStep {s' s : State} {w : Word} (hs : SameBlock s' s) (h : s.pending = some w) :
    SameOutcome (engineStep s') (engineStep s) := by
  have h' : (s'.lendStatus s).pending = some w := h
  rw [sameBlock_iff.1 hs]
  cases hd : decode w with
  | error e => rw [engineStep_illegal h hd, engineStep_illegal h' hd]; rfl
  | ok i => rw [engineStep_ok h hd, engineStep_ok h' hd]; exact sameOutcome_exec s' s i

/-! ### Host transactions while BUSY -/

theorem sameBlock_hostRead (addr : Addr) (width : Width) (s : State) : SameBlock (hostRead addr width s) s := by
  rcases hostRead_cases addr width s with ⟨_, he⟩ | ⟨l, _, he⟩ | ⟨l, v, _, _, he⟩ <;> rw [he] <;>
    exact sameBlock_iff.2 rfl

/-- The only address of CTRL (R73). -/
theorem addr_of_accept_ctrl {addr : Addr} {width : Width} (h : accept addr width = some .ctrl) : addr = 0x00008 := by
  have haddr := addressOf_of_locate (accept_eq_some h).2
  exact BitVec.eq_of_toNat_eq haddr.symm

theorem sameBlock_writeAt {s : State} (hb : s.busy = true) {l : Location} {v : Word}
    (h : l = .ctrl → v.getLsbD 1 = false) : SameBlock (writeAt l v s) s := by
  cases l with
  | ctrl =>
    rcases writeCtrl_cases v s with ⟨hsrst, _⟩ | ⟨_, he⟩
    · cases hsrst.symm.trans (h rfl)
    · rw [writeAt, he]; exact sameBlock_iff.2 rfl
  | cmd | size | cw | grid => rw [writeAt, unlessBusy_busy hb]; exact sameBlock_iff.2 rfl
  | status | id | result | geom | genS | plCur | plInfo | plLast | gen | rem | syn => exact sameBlock_iff.2 rfl

theorem sameBlock_transact {s : State} (hb : s.busy = true) {t : Transaction} (ht : NotSoftReset t) :
    SameBlock (transact t s) s := by
  cases t with
  | read addr width => exact sameBlock_hostRead addr width s
  | write addr width v =>
    show SameBlock (hostWrite addr width v s) s
    rcases hostWrite_cases addr width v s with ⟨_, he⟩ | ⟨l, hl, he⟩ <;> rw [he]
    · exact sameBlock_iff.2 rfl
    · refine sameBlock_writeAt hb fun hctrl => ht ⟨(accept_eq_some hl).1, ?_⟩
      exact addr_of_accept_ctrl (hctrl ▸ hl)

end Sys2Proof.Machine

open Sys2Proof Sys2Proof.Machine

/-- Settles O39: the outcome does not depend on what `SameBlock` leaves open, and while BUSY the host reaches nothing
else. -/
theorem commandSeesStateAtIssue : Obligations.CommandSeesStateAtIssue := by
  refine ⟨fun s tr hb ht => sameBlock_transact hb ht, fun s s' t hs h => ?_, fun s s' f hs h => ?_⟩
  · cases hp : s.pending with
    | none =>
      have hp' : s'.pending = none := hs.1.trans hp
      rw [engineStep_idle hp] at h
      cases h
      exact ⟨s', engineStep_idle hp', hs, rfl⟩
    | some w =>
      have hsame := sameOutcome_engineStep hs hp
      rw [SameOutcome, h] at hsame
      obtain ⟨t', ht', hleft⟩ := mapNext_eq_next.1 hsame
      obtain ⟨hblock, hcode⟩ := left_eq_iff.1 hleft
      exact ⟨t', ht', hblock, hcode⟩
  · cases hp : s.pending with
    | none => rw [engineStep_idle hp] at h; cases h
    | some w =>
      have hsame := sameOutcome_engineStep hs hp
      rw [SameOutcome, h] at hsame
      exact mapNext_eq_fault.1 hsame

end

section
/-! PROOFS, the encoding (spec/30_encoding.md): a word is its four fields, a command is its row of the opcode map with
its operands, and the decoder reads both. -/

namespace Sys2Proof

/-! ### Words by their fields (R90) -/

theorem toNat_eq_fields (w : Word) :
    w.toNat = (opField w).toNat + 256 * (aField w).toNat + 65536 * (bField w).toNat + 16777216 * (zField w).toNat := by
  simp only [opField, aField, bField, zField, BitVec.extractLsb'_toNat, Nat.shiftRight_eq_div_pow]
  omega

theorem word_eq_iff_fields {v w : Word} :
    v = w ↔ zField v = zField w ∧ opField v = opField w ∧ aField v = aField w ∧ bField v = bField w := by
  constructor
  · rintro rfl; exact ⟨rfl, rfl, rfl, rfl⟩
  · rintro ⟨hz, hop, ha, hb⟩
    apply BitVec.eq_of_toNat_eq
    rw [toNat_eq_fields v, toNat_eq_fields w, hz, hop, ha, hb]

/-- The fields of a command's word are its OP, A and B, and Z is 0. -/
theorem fields_encode (i : Instr) : Laws.EncodeFields.Statement i := Laws.EncodeFields.fields_of_append _ _ _

@[simp] theorem opField_encode (i : Instr) : opField (encode i) = opcode i := (fields_encode i).1
@[simp] theorem aField_encode (i : Instr) : aField (encode i) = operandA i := (fields_encode i).2.1
@[simp] theorem bField_encode (i : Instr) : bField (encode i) = operandB i := (fields_encode i).2.2.1
@[simp] theorem zField_encode (i : Instr) : zField (encode i) = 0 := (fields_encode i).2.2.2

theorem encode_eq_iff {i : Instr} {w : Word} :
    encode i = w ↔ zField w = 0 ∧ opField w = opcode i ∧ aField w = operandA i ∧ bField w = operandB i := by
  simp [word_eq_iff_fields, eq_comm]

/-- The word of a command as a number (R95). -/
theorem toNat_encode (i : Instr) :
    (encode i).toNat = (opcode i).toNat + 256 * (operandA i).toNat + 65536 * (operandB i).toNat := by
  simp [toNat_eq_fields (encode i)]

/-! ### The decoder (R92 to R94) -/

theorem noOperand_eq_ok {w : Word} {i j : Instr} :
    noOperand w j = .ok i ↔ aField w = 0 ∧ bField w = 0 ∧ j = i := by
  unfold noOperand; split <;> simp_all

theorem oneOperand_eq_ok {w : Word} {i : Instr} {f : Byte → Instr} :
    oneOperand w f = .ok i ↔ bField w = 0 ∧ f (aField w) = i := by
  unfold oneOperand; split <;> simp_all

/-- Every well-formed command's word decodes to it (R90 to R92). -/
theorem decode_encode {i : Instr} (h : i.wf = true) : decode (encode i) = .ok i := by
  cases i with
  | nop | rsEnc | plClear | plFinder | plStart | plStep | plRun | plFixup | symbol =>
    simp [decode, noOperand, opcode, operandA, operandB]
  | gfAdd a b | gfMul a b | gfDiv a b => simp [decode, opcode, operandA, operandB]
  | gfLog a => simp [decode, oneOperand, opcode, operandA, operandB]
  | gfExp n | rsGen n | rsRem n | rsSyn n =>
    have hn : n < 256 := of_decide_eq_true h
    simp [decode, oneOperand, opcode, operandA, operandB, Nat.mod_eq_of_lt hn]

/-- A word that decodes is the word of a well-formed command, with no bit ignored (R93). -/
theorem wf_and_encode_of_decode {w : Word} {i : Instr} (h : decode w = .ok i) : i.wf = true ∧ encode i = w := by
  rw [encode_eq_iff]
  unfold decode at h
  split at h
  · cases h
  next hz =>
    have hz := not_not.1 hz
    split at h
    -- by the operands the command has: two, one, no command at all (OP outside the map), none
    case h_2 hop | h_3 hop | h_4 hop =>
      cases h
      exact ⟨rfl, hz, BitVec.eq_of_toNat_eq hop, rfl, rfl⟩
    case h_5 hop | h_6 hop | h_7 hop | h_9 hop | h_10 hop =>
      obtain ⟨hb, rfl⟩ := oneOperand_eq_ok.1 h
      exact ⟨by simp [Instr.wf, (aField w).isLt], hz, BitVec.eq_of_toNat_eq hop, by simp [operandA], hb⟩
    case h_18 => cases h
    all_goals
      next hop =>
        obtain ⟨ha, hb, rfl⟩ := noOperand_eq_ok.1 h
        exact ⟨rfl, hz, BitVec.eq_of_toNat_eq hop, ha, hb⟩

/-! ### The opcode map (R92) -/

/-- The commands whose A field is an operand (R91, R92). -/
def usesA : Instr → Bool
  | .gfAdd _ _ | .gfMul _ _ | .gfDiv _ _ | .gfExp _ | .gfLog _ | .rsGen _ | .rsRem _ | .rsSyn _ => true
  | .nop | .rsEnc | .plClear | .plFinder | .plStart | .plStep | .plRun | .plFixup | .symbol => false

/-- The commands whose B field is an operand (R91, R92). -/
def usesB : Instr → Bool
  | .gfAdd _ _ | .gfMul _ _ | .gfDiv _ _ => true
  | .gfExp _ | .gfLog _ | .rsGen _ | .rsRem _ | .rsSyn _ => false
  | .nop | .rsEnc | .plClear | .plFinder | .plStart | .plStep | .plRun | .plFixup | .symbol => false

/-- The mask of a field: 0 where the field is an operand, all ones where the row fixes it. -/
def fieldMask (isOperand : Bool) : Byte := if isOperand then 0#8 else 0xFF#8

/-- The mask of a row: OP and Z are fixed. -/
def rowMask (a b : Bool) : Word := (0xFF#8 ++ fieldMask b) ++ (fieldMask a ++ 0xFF#8)

/-- The row of the opcode map that a command belongs to: it fixes OP, Z = 0, and 0 in every field that is no operand. -/
def rowOf (i : Instr) : OpRow where
  mnemonic := mnemonic i
  matchBits := (0#8 ++ 0#8) ++ (0#8 ++ opcode i)
  mask := rowMask (usesA i) (usesB i)

theorem rowOf_mask (i : Instr) : (rowOf i).mask = rowMask (usesA i) (usesB i) := rfl

/-- One command per row of the map, with the operands `a` and `b` where the row has them. -/
def commands (a b : Byte) : List Instr :=
  [.nop, .gfAdd a b, .gfMul a b, .gfDiv a b, .gfExp a.toNat, .gfLog a, .rsGen a.toNat, .rsEnc, .rsRem a.toNat,
   .rsSyn a.toNat, .plClear, .plFinder, .plStart, .plStep, .plRun, .plFixup, .symbol]

theorem opcodeMap_eq (a b : Byte) : opcodeMap = (commands a b).map rowOf := by
  simp [opcodeMap, commands, rowOf, mnemonic, opcode, usesA, usesB, rowMask, fieldMask]

theorem rowOf_mem_opcodeMap (i : Instr) : rowOf i ∈ opcodeMap := by
  cases i <;> simp [opcodeMap, rowOf, mnemonic, opcode, usesA, usesB, rowMask, fieldMask]

/-- The commands of the map are well formed, with the operands given where a field is one and 0 elsewhere. -/
theorem operands_of_mem_commands {a b : Byte} : ∀ i ∈ commands a b,
    i.wf = true ∧ operandA i = (if usesA i then a else 0) ∧ operandB i = if usesB i then b else 0 := by
  simp [commands, Instr.wf, operandA, operandB, usesA, usesB, a.isLt]

/-- The word of a command carries 0 in every field that is no operand. -/
theorem operands_of_unused (i : Instr) :
    (usesA i = false → operandA i = 0) ∧ (usesB i = false → operandB i = 0) := by
  cases i <;> simp [usesA, usesB, operandA, operandB]

/-- What it is to select a row, field by field. -/
theorem selects_iff_fields {r : OpRow} {w : Word} : r.selects w = true ↔
    zField w &&& zField r.mask = zField r.matchBits ∧ opField w &&& opField r.mask = opField r.matchBits ∧
      aField w &&& aField r.mask = aField r.matchBits ∧ bField w &&& bField r.mask = bField r.matchBits := by
  simp [OpRow.selects, word_eq_iff_fields, zField, opField, aField, bField, BitVec.extractLsb'_and]

theorem and_ones (x : Byte) : x &&& 0xFF#8 = x := BitVec.and_allOnes

theorem and_fieldMask_eq_zero {x : Byte} {u : Bool} : x &&& fieldMask u = 0 ↔ (u = false → x = 0) := by
  cases u with
  | false => simp [fieldMask, and_ones]
  | true => simp [fieldMask]

/-- A field that is 0 unless it is an operand is what `operands_of_mem_commands` says of it. -/
theorem eq_operand_of_unused {x : Byte} {u : Bool} (h : u = false → x = 0) : x = if u then x else 0 := by
  cases u
  · exact h rfl
  · rfl

theorem fields_rowMask (a b : Bool) : zField (rowMask a b) = 0xFF#8 ∧ opField (rowMask a b) = 0xFF#8 ∧
    aField (rowMask a b) = fieldMask a ∧ bField (rowMask a b) = fieldMask b := by
  cases a <;> cases b <;> decide

theorem fields_matchBits (i : Instr) : zField (rowOf i).matchBits = 0 ∧ opField (rowOf i).matchBits = opcode i ∧
    aField (rowOf i).matchBits = 0 ∧ bField (rowOf i).matchBits = 0 := by
  obtain ⟨hop, ha, hb, hz⟩ := Laws.EncodeFields.fields_of_append (opcode i) 0 0
  exact ⟨hz, hop, ha, hb⟩

/-- A word selects a command's row when Z is 0, OP is the row's, and every field that is no operand is 0. -/
theorem rowOf_selects_iff {i : Instr} {w : Word} : (rowOf i).selects w = true ↔
    zField w = 0 ∧ opField w = opcode i ∧ (usesA i = false → aField w = 0) ∧ (usesB i = false → bField w = 0) := by
  obtain ⟨hzMask, hopMask, haMask, hbMask⟩ := fields_rowMask (usesA i) (usesB i)
  obtain ⟨hz, hop, ha, hb⟩ := fields_matchBits i
  rw [selects_iff_fields, rowOf_mask, hzMask, hopMask, haMask, hbMask, hz, hop, ha, hb, and_ones, and_ones,
    and_fieldMask_eq_zero, and_fieldMask_eq_zero]

theorem rowOf_selects_encode (i : Instr) : (rowOf i).selects (encode i) = true := by
  obtain ⟨ha, hb⟩ := operands_of_unused i
  simpa [rowOf_selects_iff] using ⟨ha, hb⟩

/-- A row of the map selects a word exactly when the word decodes to a command of that row. -/
theorem selects_iff_decode {r : OpRow} (hr : r ∈ opcodeMap) {w : Word} :
    r.selects w = true ↔ ∃ i, decode w = .ok i ∧ rowOf i = r := by
  constructor
  · intro h
    rw [opcodeMap_eq (aField w) (bField w)] at hr
    obtain ⟨i, hi, rfl⟩ := List.mem_map.1 hr
    obtain ⟨hwf, ha, hb⟩ := operands_of_mem_commands i hi
    obtain ⟨hz, hop, hA, hB⟩ := rowOf_selects_iff.1 h
    have henc : encode i = w := encode_eq_iff.2 ⟨hz, hop, ha ▸ eq_operand_of_unused hA, hb ▸ eq_operand_of_unused hB⟩
    exact ⟨i, henc ▸ decode_encode hwf, rfl⟩
  · rintro ⟨i, hi, rfl⟩
    rw [← (wf_and_encode_of_decode hi).2]
    exact rowOf_selects_encode i

/-- The row that a decoding word selects is its command's. -/
theorem eq_rowOf_of_selects {r : OpRow} (hr : r ∈ opcodeMap) {w : Word} {i : Instr} (hs : r.selects w = true)
    (hd : decode w = .ok i) : r = rowOf i := by
  obtain ⟨j, hj, rfl⟩ := (selects_iff_decode hr).1 hs
  cases hd.symm.trans hj
  rfl

/-! ### The assembler (R95) -/

theorem assemble_eq_none {name : String} {ops : List Nat} (h : ∃ n ∈ ops, 256 ≤ n) : assemble name ops = none := by
  obtain ⟨n, hn, hlarge⟩ := h
  refine if_neg fun hall => ?_
  have hsmall := of_decide_eq_true (List.all_eq_true.1 hall n hn)
  omega

end Sys2Proof

open Sys2Proof

/-- Settles O40: `decode_encode` one way, `wf_and_encode_of_decode` the other. -/
theorem decodeAndEncodeAgree : Obligations.DecodeAndEncodeAgree :=
  ⟨fun _ => decode_encode, fun _ _ => wf_and_encode_of_decode⟩

/-- Settles O41: a row of the map is selected exactly by the words that decode to a command of that row, so the rows a
word selects are all its command's. -/
theorem decodeFollowsOpcodeMap : Obligations.DecodeFollowsOpcodeMap := by
  refine ⟨fun w => ⟨?_, ?_⟩, ?_, ?_, ?_⟩
  · rintro ⟨i, hi⟩
    exact ⟨rowOf i, rowOf_mem_opcodeMap i, (selects_iff_decode (rowOf_mem_opcodeMap i)).2 ⟨i, hi, rfl⟩⟩
  · rintro ⟨r, hr, hs⟩
    obtain ⟨i, hi, -⟩ := (selects_iff_decode hr).1 hs
    exact ⟨i, hi⟩
  · intro w i hi r hr hs
    rw [eq_rowOf_of_selects hr hs hi]
    rfl
  · intro w r hr r' hr' hs hs'
    obtain ⟨i, hi, hrow⟩ := (selects_iff_decode hr).1 hs
    exact hrow.symm.trans (eq_rowOf_of_selects hr' hs' hi).symm
  · intro w i hi
    obtain ⟨-, hop, ha, hb⟩ := encode_eq_iff.1 (wf_and_encode_of_decode hi).2
    exact ⟨hop.symm, ha.symm, hb.symm⟩

/-- Settles O42: the listed words are evaluated; the word of every command and the refused operands are
`toNat_encode` and `assemble_eq_none`. -/
theorem specWordsDecodeAndAssemble : Obligations.SpecWordsDecodeAndAssemble := by
  refine ⟨?_, ?_, ?_, ?_, ?_, ?_, ?_, ?_, ?_, ?_, ?_, toNat_encode, fun _ _ => assemble_eq_none, ?_, ?_, ?_⟩ <;> decide

end

section
/-! PROOFS, the pending word (R93, R210): what the engine makes of a word by its OP, for commands with no operand, with
A, and with A and B. -/

namespace Sys2Proof.Machine

open Claims

/-- A word with a reserved bit set in Z is illegal whatever its OP (R93). -/
theorem decode_of_zField_ne {w : Word} (h : zField w ≠ 0) : decode w = .error .reservedBit := if_pos h

/-- What the engine makes of a pending word, from what the decoder makes of a word with Z = 0: refused unless the fields
that are no operand are `clear`. -/
theorem runsAs_of_decode {op : Byte} {bad clear : Word → Prop} [DecidablePred clear] {mk : Word → Instr}
    (hbad : ∀ w, ¬ bad w ↔ zField w = 0 ∧ clear w)
    (h : ∀ w, zField w = 0 → opField w = op → decode w = if clear w then .ok (mk w) else .error .reservedBit) :
    RunsAs op bad mk := by
  refine fun s w hp hop => ⟨fun hw => engineStep_illegal (e := .reservedBit) hp ?_, fun hw => engineStep_ok hp ?_⟩
  · by_cases hz : zField w = 0
    · exact (h w hz hop).trans (if_neg fun hclear => (hbad w).2 ⟨hz, hclear⟩ hw)
    · exact decode_of_zField_ne hz
  · obtain ⟨hz, hclear⟩ := (hbad w).1 hw
    exact (h w hz hop).trans (if_pos hclear)

theorem not_badAbove24 {w : Word} : ¬ badAbove24 w ↔ zField w = 0 := not_not

theorem not_badAbove16 {w : Word} : ¬ badAbove16 w ↔ zField w = 0 ∧ bField w = 0 := by
  simp only [badAbove16, not_not, zField, bField, ← BitVec.toNat_inj, BitVec.extractLsb'_toNat,
    Nat.shiftRight_eq_div_pow, BitVec.ofNat_eq_ofNat, BitVec.toNat_ofNat, Nat.zero_mod]
  omega

theorem not_badAbove8 {w : Word} : ¬ badAbove8 w ↔ zField w = 0 ∧ aField w = 0 ∧ bField w = 0 := by
  simp only [badAbove8, not_not, zField, aField, bField, ← BitVec.toNat_inj, BitVec.extractLsb'_toNat,
    Nat.shiftRight_eq_div_pow, BitVec.ofNat_eq_ofNat, BitVec.toNat_ofNat, Nat.zero_mod]
  omega

/-- A command that uses A and B is refused on Z alone. -/
theorem runsAs_twoOperands {op : Byte} {i : Byte → Byte → Instr}
    (h : ∀ w, zField w = 0 → opField w = op → decode w = .ok (i (aField w) (bField w))) :
    RunsAs op badAbove24 fun w => i (aField w) (bField w) :=
  runsAs_of_decode (clear := fun _ => True) (fun _ => not_badAbove24.trans (and_iff_left trivial).symm)
    fun w hz hop => (h w hz hop).trans (if_pos trivial).symm

/-- A command that uses A is refused on Z and on B. -/
theorem runsAs_oneOperand {op : Byte} {i : Byte → Instr}
    (h : ∀ w, zField w = 0 → opField w = op → decode w = oneOperand w i) :
    RunsAs op badAbove16 fun w => i (aField w) :=
  runsAs_of_decode (fun _ => not_badAbove16) h

/-- A command that uses no operand is refused on Z, A and B. -/
theorem runsAs_noOperand {op : Byte} {i : Instr}
    (h : ∀ w, zField w = 0 → opField w = op → decode w = noOperand w i) : RunsAs op badAbove8 fun _ => i :=
  runsAs_of_decode (fun _ => not_badAbove8) h

end Sys2Proof.Machine
end

section
/-! PROOFS, the field GF(256) (spec/40_gf.md): alpha generates the non-zero elements, so products and quotients are sums
and differences of exponents; and the product is linear in each operand, so it is the polynomial product. -/

namespace Sys2Proof.Machine

/-! ### Powers of alpha (R11, R43 to R45) -/

theorem alphaPow_eq_expRom {n : Nat} (h : n < 255) : alphaPow n = expRom n := congrArg expRom (Nat.mod_eq_of_lt h)

theorem alphaPow_zero : alphaPow 0 = 1 := rfl

theorem alphaPow_congr {m n : Nat} (h : m % 255 = n % 255) : alphaPow m = alphaPow n := congrArg expRom h

@[simp] theorem logRom_zero : logRom 0 = none := rfl

@[simp] theorem logRom_alphaPow (n : Nat) : logRom (alphaPow n) = some (n % 255) :=
  logRom_expRom _ (Nat.mod_lt n (by decide))

/-- An element has no logarithm exactly when it is 0 (R45). -/
theorem logRom_eq_none {a : Byte} : logRom a = none ↔ a = 0 := by
  refine ⟨fun h => ?_, fun h => h ▸ logRom_zero⟩
  by_contra ha
  obtain ⟨n, hn, -⟩ := expRom_logRom a ha
  cases h.symm.trans hn

theorem exists_logRom {a : Byte} (ha : a ≠ 0) : ∃ n, logRom a = some n :=
  Option.ne_none_iff_exists'.1 (mt logRom_eq_none.1 ha)

/-- Every element is 0 or a power of alpha. -/
theorem eq_zero_or_alphaPow (a : Byte) : a = 0 ∨ ∃ n, n < 255 ∧ a = alphaPow n := by
  by_cases ha : a = 0
  · exact .inl ha
  · obtain ⟨n, -, hn, h⟩ := expRom_logRom a ha
    exact .inr ⟨n, hn, h.symm.trans (alphaPow_eq_expRom hn).symm⟩

/-- The exponent of a power of alpha is unique below 255. -/
theorem eq_of_alphaPow_eq {m n : Nat} (hm : m < 255) (hn : n < 255) (h : alphaPow m = alphaPow n) : m = n := by
  have hlog := congrArg logRom h
  rwa [logRom_alphaPow, logRom_alphaPow, Nat.mod_eq_of_lt hm, Nat.mod_eq_of_lt hn, Option.some.injEq] at hlog

/-! ### The table product and quotient (R101, R104, R105) -/

@[simp] theorem gfMul_zero (a : Byte) : gfMul a 0 = 0 := by
  rw [gfMul, logRom_zero]
  cases logRom a <;> rfl

@[simp] theorem zero_gfMul (a : Byte) : gfMul 0 a = 0 := rfl

theorem gfMul_of_logRom {a b : Byte} {la lb : Nat} (ha : logRom a = some la) (hb : logRom b = some lb) :
    gfMul a b = alphaPow (la + lb) := by
  rw [gfMul, ha, hb]

/-- Exponents add. -/
theorem gfMul_alphaPow (m n : Nat) : gfMul (alphaPow m) (alphaPow n) = alphaPow (m + n) :=
  (gfMul_of_logRom (logRom_alphaPow m) (logRom_alphaPow n)).trans (alphaPow_congr (Nat.add_mod m n 255).symm)

theorem one_gfMul (a : Byte) : gfMul 1 a = a := by
  obtain rfl | ⟨n, -, rfl⟩ := eq_zero_or_alphaPow a
  · rfl
  · rw [← alphaPow_zero, gfMul_alphaPow, Nat.zero_add]

theorem gfMul_comm (a b : Byte) : gfMul a b = gfMul b a := by
  obtain rfl | ⟨m, -, rfl⟩ := eq_zero_or_alphaPow a
  · rw [zero_gfMul, gfMul_zero]
  obtain rfl | ⟨n, -, rfl⟩ := eq_zero_or_alphaPow b
  · rw [zero_gfMul, gfMul_zero]
  rw [gfMul_alphaPow, gfMul_alphaPow, Nat.add_comm]

theorem gfMul_assoc (a b c : Byte) : gfMul (gfMul a b) c = gfMul a (gfMul b c) := by
  obtain rfl | ⟨m, -, rfl⟩ := eq_zero_or_alphaPow a
  · simp only [zero_gfMul]
  obtain rfl | ⟨n, -, rfl⟩ := eq_zero_or_alphaPow b
  · simp only [zero_gfMul, gfMul_zero]
  obtain rfl | ⟨k, -, rfl⟩ := eq_zero_or_alphaPow c
  · simp only [gfMul_zero]
  simp only [gfMul_alphaPow, Nat.add_assoc]

theorem gfDiv_of_logRom {a b : Byte} {la lb : Nat} (ha : logRom a = some la) (hb : logRom b = some lb) :
    gfDiv a b = some (expRom (((la : Int) - lb) % 255).toNat) := by
  rw [gfDiv, ha, hb]

theorem zero_gfDiv {b : Byte} (hb : b ≠ 0) : gfDiv 0 b = some 0 := by
  obtain ⟨lb, hlb⟩ := exists_logRom hb
  rw [gfDiv, hlb, logRom_zero]

theorem gfDiv_self {b : Byte} (hb : b ≠ 0) : gfDiv b b = some 1 := by
  obtain ⟨lb, hlb⟩ := exists_logRom hb
  rw [gfDiv_of_logRom hlb hlb, sub_self]
  rfl

/-- The quotient exists for a divisor other than 0, and times the divisor it is the dividend. -/
theorem exists_gfDiv (a : Byte) {b : Byte} (hb : b ≠ 0) : ∃ q, gfDiv a b = some q ∧ gfMul q b = a := by
  obtain rfl | ⟨m, hm, rfl⟩ := eq_zero_or_alphaPow a
  · exact ⟨0, zero_gfDiv hb, zero_gfMul b⟩
  obtain rfl | ⟨n, hn, rfl⟩ := eq_zero_or_alphaPow b
  · exact absurd rfl hb
  refine ⟨_, gfDiv_of_logRom (logRom_alphaPow m) (logRom_alphaPow n), ?_⟩
  rw [Nat.mod_eq_of_lt hm, Nat.mod_eq_of_lt hn, ← alphaPow_eq_expRom (by omega), gfMul_alphaPow]
  exact alphaPow_congr (by omega)

/-! ### Doubling is the product by alpha (R43) -/

theorem gfDouble_zero : gfDouble 0 = 0 := rfl

theorem gfDouble_expRom : ∀ i, i < 255 → gfDouble (expRom i) = alphaPow (i + 1) := by decide +kernel

theorem gfDouble_alphaPow (n : Nat) : gfDouble (alphaPow n) = alphaPow (n + 1) :=
  (gfDouble_expRom _ (Nat.mod_lt n (by decide))).trans (alphaPow_congr (Nat.mod_add_mod n 255 1))

theorem gfDouble_iterate_alphaPow (m n : Nat) : gfDouble^[m] (alphaPow n) = alphaPow (m + n) := by
  induction m with
  | zero => rw [Function.iterate_zero_apply, Nat.zero_add]
  | succ m ih => rw [Function.iterate_succ_apply', ih, gfDouble_alphaPow, Nat.add_right_comm]

theorem gfMul_alphaPow_eq_iterate (n : Nat) (b : Byte) : gfMul (alphaPow n) b = gfDouble^[n] b := by
  obtain rfl | ⟨m, -, rfl⟩ := eq_zero_or_alphaPow b
  · rw [gfMul_zero, Function.iterate_fixed gfDouble_zero]
  · rw [gfMul_alphaPow, gfDouble_iterate_alphaPow]

/-! ### Maps that are linear over GF(2) -/

/-- The map takes sums to sums. -/
def XorLinear (f : Byte → Byte) : Prop := ∀ x y, f (x ^^^ y) = f x ^^^ f y

theorem XorLinear.map_zero {f : Byte → Byte} (hf : XorLinear f) : f 0 = 0 := by
  simpa using hf 0 0

theorem XorLinear.iterate {f : Byte → Byte} (hf : XorLinear f) (n : Nat) : XorLinear f^[n] :=
  fun x y => Function.Semiconj₂.iterate (f := f) (op := (· ^^^ ·)) hf n x y

/-- The sum of `g i` over the set bits `i` of a byte. -/
def sumOfBits (g : Nat → Byte) (a : Byte) : Byte :=
  (List.range 8).foldl (fun acc i => if a.getLsbD i then acc ^^^ g i else acc) 0

theorem sumOfBits_twoPow : ∀ a : Byte, sumOfBits (BitVec.twoPow 8) a = a := by decide +kernel

theorem sumOfBits_congr {g h : Nat → Byte} (hgh : ∀ i < 8, g i = h i) (a : Byte) : sumOfBits g a = sumOfBits h a :=
  List.foldl_ext _ _ _ fun _ i hi => by rw [hgh i (List.mem_range.1 hi)]

/-- A linear map is the sum of its values at the set bits. -/
theorem XorLinear.eq_sumOfBits {f : Byte → Byte} (hf : XorLinear f) (a : Byte) :
    f a = sumOfBits (fun i => f (BitVec.twoPow 8 i)) a := by
  conv_lhs => rw [← sumOfBits_twoPow a, sumOfBits]
  conv_rhs => rw [sumOfBits, ← hf.map_zero]
  refine (List.foldl_hom f fun x i => ?_).symm
  split
  · exact (hf x _).symm
  · rfl

/-- Linear maps that agree on the single bits are equal. -/
theorem XorLinear.ext {f g : Byte → Byte} (hf : XorLinear f) (hg : XorLinear g)
    (h : ∀ i < 8, f (BitVec.twoPow 8 i) = g (BitVec.twoPow 8 i)) (a : Byte) : f a = g a := by
  rw [hf.eq_sumOfBits, hg.eq_sumOfBits, sumOfBits_congr h]

/-! ### The product is linear in each operand (R108) -/

/-- What a doubling adds after the shift: p(x) without x^8 when the high bit is shifted out. -/
def overflowTerm (high : Bool) : Byte := if high then 0x2D else 0

theorem overflowTerm_xor : ∀ b c : Bool, overflowTerm (b ^^ c) = overflowTerm b ^^^ overflowTerm c := by decide

theorem gfDouble_eq_shiftLeft : ∀ a : Byte, gfDouble a = a <<< 1 ^^^ overflowTerm a.msb := by decide

theorem xorLinear_gfDouble : XorLinear gfDouble := by
  intro x y
  simp only [gfDouble_eq_shiftLeft, BitVec.shiftLeft_xor_distrib, BitVec.msb_xor, overflowTerm_xor]
  ac_rfl

theorem xorLinear_gfMul (a : Byte) : XorLinear (gfMul a) := by
  obtain rfl | ⟨n, -, rfl⟩ := eq_zero_or_alphaPow a
  · exact fun _ _ => BitVec.xor_self.symm
  · rw [funext (gfMul_alphaPow_eq_iterate n)]
    exact xorLinear_gfDouble.iterate n

theorem gfMul_gfAdd (a b c : Byte) : gfMul a (gfAdd b c) = gfAdd (gfMul a b) (gfMul a c) := xorLinear_gfMul a b c

theorem xorLinear_gfMul_left (b : Byte) : XorLinear (gfMul · b) := by
  rw [funext (gfMul_comm · b)]
  exact xorLinear_gfMul b

/-! ### The polynomial product (R101) -/

theorem polyMod_xor (m n : Nat) : polyMod (m ^^^ n) = polyMod m ^^^ polyMod n := by
  refine List.foldl_hom₂ _ (· ^^^ ·) _ _ _ m n fun x y i => ?_
  simp only [Nat.testBit_xor]
  cases x.testBit i <;> cases y.testBit i <;> simp [Nat.xor_assoc, Nat.xor_comm, Nat.xor_left_comm]

theorem clMul_xor (a b c : Byte) : clMul a (b ^^^ c) = clMul a b ^^^ clMul a c := by
  refine List.foldl_hom₂ _ (· ^^^ ·) _ _ _ 0 0 fun x y i => ?_
  simp only [BitVec.getLsbD_xor]
  cases b.getLsbD i <;> cases c.getLsbD i <;> simp [Nat.xor_assoc, Nat.xor_comm, Nat.xor_left_comm]

theorem xor_clMul (a b c : Byte) : clMul (a ^^^ b) c = clMul a c ^^^ clMul b c := by
  refine List.foldl_hom₂ _ (· ^^^ ·) _ _ _ 0 0 fun x y i => ?_
  rw [BitVec.toNat_xor, Nat.shiftLeft_xor_distrib]
  cases c.getLsbD i <;> simp [Nat.xor_assoc, Nat.xor_left_comm]

theorem xorLinear_gfMulPoly (a : Byte) : XorLinear (gfMulPoly a) := fun x y => by
  simp only [gfMulPoly, clMul_xor, polyMod_xor, BitVec.ofNat_xor]

theorem xorLinear_gfMulPoly_left (b : Byte) : XorLinear (gfMulPoly · b) := fun x y => by
  simp only [gfMulPoly, xor_clMul, polyMod_xor, BitVec.ofNat_xor]

theorem gfMulPoly_twoPow : ∀ j < 8, ∀ i < 8, gfMulPoly (BitVec.twoPow 8 i) (BitVec.twoPow 8 j) =
    gfMul (BitVec.twoPow 8 i) (BitVec.twoPow 8 j) := by decide +kernel

/-- Both products are linear in each operand, and they agree on the single bits. -/
theorem gfMulPoly_eq_gfMul (a b : Byte) : gfMulPoly a b = gfMul a b :=
  (xorLinear_gfMulPoly a).ext (xorLinear_gfMul a) (fun j hj =>
    (xorLinear_gfMulPoly_left _).ext (xorLinear_gfMul_left _) (gfMulPoly_twoPow j hj) a) b

/-! ### The commands (R104 to R107) -/

theorem exec_gfDiv_of_some {a b q : Byte} (h : gfDiv a b = some q) (s : State) :
    exec (.gfDiv a b) s = succeed (s.setResult q) := by
  rw [exec, execGfDiv, h]

theorem exec_gfLog_of_some {a : Byte} {n : Nat} (h : logRom a = some n) (s : State) :
    exec (.gfLog a) s = succeed (s.setResult (BitVec.ofNat 8 n)) := by
  rw [exec, execGfLog, h]

end Sys2Proof.Machine

open Sys2Proof Sys2Proof.Machine

/-- Settles O4: both products are linear in each operand and agree on the single bits; an operand without a logarithm is
0. -/
theorem gfMulIsPolynomialProductModP : Obligations.GfMulIsPolynomialProductModP := by
  refine fun a b => ⟨gfMulPoly_eq_gfMul a b, ?_, fun la lb => gfMul_of_logRom, fun ha => ?_⟩
  · rintro (rfl | rfl)
    · exact zero_gfMul b
    · exact gfMul_zero a
  · obtain ⟨la, hla⟩ := exists_logRom ha
    exact Option.isSome_of_eq_some hla

/-- Settles O5: the quotient of `exists_gfDiv`, whose table form gives the other clauses. -/
theorem gfDivIsQuotientOrDivZero : Obligations.GfDivIsQuotientOrDivZero := by
  refine ⟨runsAs_twoOperands fun w hz hop => by simp [decode, hz, hop], fun s a => rfl, fun s a b hb => ?_,
    rfl, rfl⟩
  obtain ⟨q, hq, hmul⟩ := exists_gfDiv a hb
  refine ⟨q, exec_gfDiv_of_some hq s, hmul, ?_, ?_, fun la lb hla hlb => ?_⟩
  · rintro rfl
    exact Option.some.inj (hq.symm.trans (zero_gfDiv hb))
  · rintro rfl
    exact Option.some.inj (hq.symm.trans (gfDiv_self hb))
  · exact Option.some.inj (hq.symm.trans (gfDiv_of_logRom hla hlb))

/-- Settles O6: by induction on the exponent, as doubling a power of alpha gives the next one. -/
theorem gfExpIsAlphaToTheE : Obligations.GfExpIsAlphaToTheE := by
  refine ⟨runsAs_oneOperand (i := fun a => .gfExp a.toNat) fun w hz hop => by simp [decode, hz, hop],
    fun s e => ⟨rfl, ?_⟩, rfl, rfl, rfl, rfl, rfl⟩
  exact (gfDouble_iterate_alphaPow e 0).symm

/-- Settles O7: LOG inverts EXP. -/
theorem gfLogIsExponentOrLogZero : Obligations.GfLogIsExponentOrLogZero := by
  refine ⟨runsAs_oneOperand fun w hz hop => by simp [decode, hz, hop], fun s => rfl, fun s a ha => ?_,
    rfl, rfl, rfl, rfl, rfl, rfl⟩
  obtain ⟨n, hlog, hn, hexp⟩ := expRom_logRom a ha
  refine ⟨n, hlog, hn, hexp, fun m hm hma => ?_, exec_gfLog_of_some hlog s⟩
  have hlog' := logRom_expRom m hm
  rw [hma, hlog] at hlog'
  exact (Option.some.inj hlog').symm

/-- Settles O9: exponents add, and the product is linear because it is repeated doubling. -/
theorem fieldLaws : Obligations.FieldLaws := by
  refine ⟨fun a => ⟨BitVec.xor_self, BitVec.xor_zero, one_gfMul a, zero_gfMul a⟩, gfMul_comm, gfMul_assoc,
    gfMul_gfAdd, fun a b hb => exists_gfDiv a hb, fun a ha => ?_, rfl, rfl, fun a ha => ?_⟩
  · obtain ⟨n, hlog, -, hexp⟩ := expRom_logRom a ha
    exact ⟨n, hlog, hexp⟩
  · obtain rfl | ⟨n, hn, rfl⟩ := eq_zero_or_alphaPow a
    · exact absurd rfl ha
    · exact ⟨n, hn, rfl, fun m hm h => eq_of_alphaPow_eq hm hn h⟩

/-- Settles O1: the word is read by its fields; NOP only completes. -/
theorem nopChangesOnlyDoneAndErrcode : Obligations.NopChangesOnlyDoneAndErrcode :=
  ⟨runsAs_noOperand fun w hz hop => by simp [decode, hz, hop], fun _ => rfl⟩

/-- Settles O2: the word is read by its fields; addition is XOR by definition. -/
theorem gfAddIsXor : Obligations.GfAddIsXor :=
  ⟨runsAs_twoOperands fun w hz hop => by simp [decode, hz, hop], fun _ _ _ => rfl⟩

/-- Settles O3: the product is commutative, and exponents add. -/
theorem gfMulByLogTables : Obligations.GfMulByLogTables := by
  refine ⟨runsAs_twoOperands fun w hz hop => by simp [decode, hz, hop], fun s a b => ?_, rfl, rfl, rfl⟩
  refine ⟨gfMul a b, rfl, by rw [gfMul_comm]; rfl, ?_, ?_, fun ha hb => ?_⟩
  · rintro (rfl | rfl)
    · exact zero_gfMul b
    · exact gfMul_zero a
  · rintro rfl
    exact one_gfMul b
  · obtain ⟨la, hla⟩ := exists_logRom ha
    obtain ⟨lb, hlb⟩ := exists_logRom hb
    exact ⟨la, lb, hla, hlb, gfMul_of_logRom hla hlb⟩

end

section
/-! PROOFS, the Reed-Solomon unit (spec/41_rs.md): polynomials over GF(256) as coefficient lists, the coefficient of x^0
first. Values of sums and products, and a polynomial with as many roots as coefficients is 0. -/

namespace Sys2Proof.Machine

open Claims

/-! ### Sums and products in the field -/

theorem gfAdd_comm (a b : Byte) : gfAdd a b = gfAdd b a := BitVec.xor_comm a b

theorem gfAdd_assoc (a b c : Byte) : gfAdd (gfAdd a b) c = gfAdd a (gfAdd b c) := BitVec.xor_assoc a b c

theorem gfAdd_left_comm (a b c : Byte) : gfAdd a (gfAdd b c) = gfAdd b (gfAdd a c) := by
  rw [← gfAdd_assoc, gfAdd_comm a b, gfAdd_assoc]

theorem gfAdd_zero (a : Byte) : gfAdd a 0 = a := BitVec.xor_zero

theorem zero_gfAdd (a : Byte) : gfAdd 0 a = a := BitVec.zero_xor

theorem gfAdd_self (a : Byte) : gfAdd a a = 0 := BitVec.xor_self

theorem gfAdd_gfAdd_cancel_left (a b : Byte) : gfAdd a (gfAdd a b) = b := by
  rw [← gfAdd_assoc, gfAdd_self, zero_gfAdd]

theorem gfAdd_eq_zero {a b : Byte} : gfAdd a b = 0 ↔ a = b := BitVec.xor_eq_zero_iff

theorem gfAdd_left_cancel {a b c : Byte} (h : gfAdd a b = gfAdd a c) : b = c := by
  rw [← gfAdd_gfAdd_cancel_left a b, h, gfAdd_gfAdd_cancel_left]

theorem gfMul_one (a : Byte) : gfMul a 1 = a := (gfMul_comm a 1).trans (one_gfMul a)

theorem gfMul_left_comm (a b c : Byte) : gfMul a (gfMul b c) = gfMul b (gfMul a c) := by
  rw [← gfMul_assoc, gfMul_comm a b, gfMul_assoc]

theorem gfAdd_gfMul (a b c : Byte) : gfMul (gfAdd a b) c = gfAdd (gfMul a c) (gfMul b c) := xorLinear_gfMul_left c a b

theorem alphaPow_ne_zero (n : Nat) : alphaPow n ≠ 0 := fun h => by
  have hlog := logRom_alphaPow n
  rw [h, logRom_zero] at hlog
  cases hlog

/-- The field has no zero divisors. -/
theorem gfMul_eq_zero {a b : Byte} : gfMul a b = 0 ↔ a = 0 ∨ b = 0 := by
  refine ⟨fun h => ?_, ?_⟩
  · obtain rfl | ⟨m, -, rfl⟩ := eq_zero_or_alphaPow a
    · exact .inl rfl
    obtain rfl | ⟨n, -, rfl⟩ := eq_zero_or_alphaPow b
    · exact .inr rfl
    rw [gfMul_alphaPow] at h
    exact absurd h (alphaPow_ne_zero _)
  · rintro (rfl | rfl)
    · exact zero_gfMul b
    · exact gfMul_zero a

theorem gfMul_right_cancel {a b c : Byte} (hc : c ≠ 0) (h : gfMul a c = gfMul b c) : a = b := by
  rw [← gfAdd_eq_zero, ← gfAdd_gfMul, gfMul_eq_zero] at h
  exact gfAdd_eq_zero.1 (h.resolve_right hc)

/-! ### Values -/

theorem evalLow_nil (x : Byte) : evalLow [] x = 0 := rfl

theorem evalLow_cons (a : Byte) (p : List Byte) (x : Byte) :
    evalLow (a :: p) x = gfAdd a (gfMul x (evalLow p x)) := rfl

theorem evalLow_addLow (p q : List Byte) (x : Byte) : evalLow (addLow p q) x = gfAdd (evalLow p x) (evalLow q x) := by
  induction p generalizing q with
  | nil => exact (zero_gfAdd _).symm
  | cons a p ih =>
    cases q with
    | nil => exact (gfAdd_zero _).symm
    | cons b q => simp only [addLow, evalLow_cons, ih, gfMul_gfAdd, gfAdd_assoc, gfAdd_left_comm]

theorem evalLow_map_gfMul (a : Byte) (p : List Byte) (x : Byte) :
    evalLow (p.map (gfMul a)) x = gfMul a (evalLow p x) := by
  induction p with
  | nil => exact (gfMul_zero a).symm
  | cons b p ih => simp only [List.map_cons, evalLow_cons, ih, gfMul_gfAdd, gfMul_left_comm]

theorem evalLow_mulLow (p q : List Byte) (x : Byte) : evalLow (mulLow p q) x = gfMul (evalLow p x) (evalLow q x) := by
  induction p with
  | nil => exact (zero_gfMul _).symm
  | cons a p ih =>
    simp only [mulLow, evalLow_addLow, evalLow_map_gfMul, evalLow_cons, ih, zero_gfAdd, gfAdd_gfMul, gfMul_assoc]

theorem evalLow_eq_zero {p : List Byte} (h : ∀ a ∈ p, a = 0) (x : Byte) : evalLow p x = 0 := by
  induction p with
  | nil => rfl
  | cons a p ih =>
    obtain ⟨rfl, hp⟩ := List.forall_mem_cons.1 h
    rw [evalLow_cons, ih hp, gfMul_zero, gfAdd_zero]

/-- Horner's scheme is the value of the sequence as a polynomial, its first codeword the highest coefficient. -/
theorem horner_eq_evalLow (x : Byte) (cs : List Byte) : horner x cs = evalLow cs.reverse x := by
  rw [evalLow, List.foldr_reverse, horner]
  exact List.foldl_ext _ _ _ fun acc c _ => by rw [gfAdd_comm, gfMul_comm]

/-! ### Roots -/

/-- Division by x + r: the quotient has one coefficient less, and the polynomial is constant when the quotient is 0. -/
theorem exists_linear_quotient (r a : Byte) (p : List Byte) : ∃ q : List Byte, q.length = p.length ∧
    (∀ x, evalLow (a :: p) x = gfAdd (gfMul (gfAdd x r) (evalLow q x)) (evalLow (a :: p) r)) ∧
    ((∀ b ∈ q, b = 0) → ∀ b ∈ p, b = 0) := by
  induction p generalizing a with
  | nil =>
    refine ⟨[], rfl, fun x => ?_, id⟩
    simp only [evalLow_cons, evalLow_nil, gfMul_zero, gfAdd_zero, zero_gfAdd]
  | cons b p ih =>
    obtain ⟨q, hlen, hval, hzero⟩ := ih b
    refine ⟨evalLow (b :: p) r :: q, by simp [hlen], fun x => ?_, fun h => ?_⟩
    · rw [evalLow_cons a, hval x, evalLow_cons _ q, evalLow_cons a]
      simp only [gfMul_gfAdd, gfAdd_gfMul, gfMul_left_comm, gfAdd_assoc, gfAdd_comm, gfAdd_left_comm,
        gfAdd_gfAdd_cancel_left]
    · obtain ⟨hb, hq⟩ := List.forall_mem_cons.1 h
      have hp := hzero hq
      rw [evalLow_cons, evalLow_eq_zero hp, gfMul_zero, gfAdd_zero] at hb
      exact List.forall_mem_cons.2 ⟨hb, hp⟩

/-- A polynomial with at least as many roots as coefficients is 0. -/
theorem eq_zero_of_roots {roots p : List Byte} (hd : roots.Nodup) (hlen : p.length ≤ roots.length)
    (h : ∀ x ∈ roots, evalLow p x = 0) : ∀ a ∈ p, a = 0 := by
  induction roots generalizing p with
  | nil => simp [List.eq_nil_of_length_eq_zero (Nat.le_zero.1 hlen)]
  | cons r roots ih =>
    obtain ⟨hr, hd⟩ := List.nodup_cons.1 hd
    obtain ⟨h0, hroots⟩ := List.forall_mem_cons.1 h
    cases p with
    | nil => simp
    | cons a p =>
      obtain ⟨q, hqlen, hval, hzero⟩ := exists_linear_quotient r a p
      have hq : ∀ b ∈ q, b = 0 := by
        refine ih hd (Nat.le_of_succ_le_succ (by simpa [hqlen] using hlen)) fun x hx => ?_
        have hprod := hroots x hx
        rw [hval, h0, gfAdd_zero, gfMul_eq_zero, gfAdd_eq_zero] at hprod
        exact hprod.resolve_left fun hxr => hr (hxr ▸ hx)
      have hp := hzero hq
      rw [evalLow_cons, evalLow_eq_zero hp, gfMul_zero, gfAdd_zero] at h0
      exact List.forall_mem_cons.2 ⟨h0, hp⟩

/-! ### Lists of coefficients -/

theorem addLow_nil (p : List Byte) : addLow p [] = p := by cases p <;> rfl

theorem addLow_assoc (p q r : List Byte) : addLow (addLow p q) r = addLow p (addLow q r) := by
  induction p generalizing q r with
  | nil => rfl
  | cons a p ih => cases q <;> cases r <;> simp [addLow, ih, gfAdd_assoc]

theorem addLow_comm (p q : List Byte) : addLow p q = addLow q p := by
  induction p generalizing q with
  | nil => exact (addLow_nil q).symm
  | cons a p ih => cases q <;> simp [addLow, ih, gfAdd_comm]

/-- Sums of polynomials go coefficient by coefficient. -/
theorem addLow_append {p q : List Byte} (h : p.length = q.length) (p' q' : List Byte) :
    addLow (p ++ p') (q ++ q') = List.zipWith gfAdd p q ++ addLow p' q' := by
  induction p generalizing q with
  | nil => rw [List.length_nil, eq_comm, List.length_eq_zero_iff] at h; subst h; rfl
  | cons a p ih =>
    cases q with
    | nil => cases h
    | cons b q => simp [addLow, ih (Nat.succ.inj h)]

theorem zipWith_gfAdd_zero {p : List Byte} {n : Nat} (h : p.length = n) :
    List.zipWith gfAdd p (List.replicate n 0) = p := by
  subst h
  induction p with
  | nil => rfl
  | cons a p ih => rw [List.length_cons, List.replicate_succ, List.zipWith_cons_cons, ih, gfAdd_zero]

theorem addLow_eq_zipWith {p q : List Byte} (h : p.length = q.length) : addLow p q = List.zipWith gfAdd p q := by
  simpa [addLow] using addLow_append h [] []

/-- Zero coefficients above do not change a sum. -/
theorem addLow_replicate_zero {p : List Byte} {n : Nat} (h : n ≤ p.length) : addLow p (List.replicate n 0) = p := by
  have hsum := addLow_append (p := p.take n) (q := List.replicate n 0) (by simpa using h) (p.drop n) []
  rwa [List.take_append_drop, List.append_nil, addLow_nil, zipWith_gfAdd_zero (by simpa using h),
    List.take_append_drop] at hsum

end Sys2Proof.Machine
end

section
/-! PROOFS, the Reed-Solomon unit: the division registers (R123, R124, R128). One step of a register is a linear map, it
divides by the generator, and it loses nothing when the generator's constant term is not 0. -/

namespace Sys2Proof.Machine

open Claims

/-! ### The steps of the two registers -/

/-- One step of the encoder's register: the codeword joins the feedback (R124). -/
def encodeStep (g r : List Byte) (d : Byte) : List Byte := divStep g 0 (gfAdd d (topOf r)) r

/-- One step of the check register: the codeword enters at the bottom (R128). -/
def checkStep (g r : List Byte) (c : Byte) : List Byte := divStep g c (topOf r) r

/-- The register before the first codeword. -/
def zeroRegister (g : List Byte) : List Byte := List.replicate g.length 0

theorem zeroRegister_length (g : List Byte) : (zeroRegister g).length = g.length := List.length_replicate

theorem encodeRegister_eq_foldl (g ds : List Byte) :
    encodeRegister g ds = ds.foldl (encodeStep g) (zeroRegister g) := rfl

theorem checkRegister_eq_foldl (g cs : List Byte) :
    checkRegister g cs = cs.foldl (checkStep g) (zeroRegister g) := rfl

theorem encodeRegister_append (g ds : List Byte) (d : Byte) :
    encodeRegister g (ds ++ [d]) = encodeStep g (encodeRegister g ds) d := by
  simp only [encodeRegister_eq_foldl, List.foldl_append, List.foldl_cons, List.foldl_nil]

theorem checkRegister_append (g cs : List Byte) (c : Byte) :
    checkRegister g (cs ++ [c]) = checkStep g (checkRegister g cs) c := by
  simp only [checkRegister_eq_foldl, List.foldl_append, List.foldl_cons, List.foldl_nil]

theorem divStep_length_of_length {g r : List Byte} (h : r.length = g.length) (low fb : Byte) :
    (divStep g low fb r).length = g.length := by
  rw [divStep_length]; omega

theorem encodeStep_length {g r : List Byte} (h : r.length = g.length) (d : Byte) :
    (encodeStep g r d).length = g.length := divStep_length_of_length h _ _

theorem checkStep_length {g r : List Byte} (h : r.length = g.length) (c : Byte) :
    (checkStep g r c).length = g.length := divStep_length_of_length h _ _

theorem encodeRegister_length (g ds : List Byte) : (encodeRegister g ds).length = g.length := by
  induction ds using List.reverseRecOn with
  | nil => exact zeroRegister_length g
  | append_singleton ds d ih => rw [encodeRegister_append, encodeStep_length ih]

theorem checkRegister_length (g cs : List Byte) : (checkRegister g cs).length = g.length := by
  induction cs using List.reverseRecOn with
  | nil => exact zeroRegister_length g
  | append_singleton cs c ih => rw [checkRegister_append, checkStep_length ih]

theorem rsRemainder_length (g ds : List Byte) : (rsRemainder g ds).length = g.length := by
  rw [rsRemainder, List.length_reverse, encodeRegister_length]

theorem topOf_append (r : List Byte) (a : Byte) : topOf (r ++ [a]) = a := by
  rw [topOf, List.getLastD_concat]

/-- A register that is not empty is what stays and the coefficient that is shifted out. -/
theorem dropLast_append_topOf {r : List Byte} (h : r ≠ []) : r.dropLast ++ [topOf r] = r := by
  obtain ⟨r, a, rfl⟩ := (List.eq_nil_or_concat' r).resolve_left h
  rw [List.dropLast_concat, topOf_append]

theorem zipWith_gfAdd_cancel {p q : List Byte} (h : p.length = q.length) :
    List.zipWith gfAdd p (List.zipWith gfAdd q p) = q := by
  induction p generalizing q with
  | nil => rw [List.length_nil, eq_comm, List.length_eq_zero_iff] at h; subst h; rfl
  | cons a p ih =>
    cases q with
    | nil => cases h
    | cons b q =>
      rw [List.zipWith_cons_cons, List.zipWith_cons_cons, ih (Nat.succ.inj h), gfAdd_comm b, gfAdd_gfAdd_cancel_left]

theorem zipWith_gfAdd_self (p : List Byte) : List.zipWith gfAdd p p = List.replicate p.length 0 := by
  induction p with
  | nil => rfl
  | cons a p ih => rw [List.zipWith_cons_cons, gfAdd_self, ih]; rfl

/-! ### Division (R123, R124, R128) -/

/-- The feedback times the monic generator cancels what a step shifts out: what is left stands at x^s. -/
theorem map_gfMul_addLow_divStep {g r : List Byte} {low : Byte} (fb : Byte) (hlow : g = [] → low = 0)
    (hr : r.length = g.length) : addLow ((g ++ [1]).map (gfMul fb)) (divStep g low fb r) =
      addLow (low :: r) (zeroRegister g ++ [gfAdd fb (topOf r)]) := by
  rcases eq_or_ne g [] with rfl | hg
  · rw [hlow rfl, List.eq_nil_of_length_eq_zero hr]
    exact congrArg (fun a => [a]) ((gfMul_one fb).trans (by rw [topOf, List.getLastD_nil, gfAdd_zero, zero_gfAdd]))
  have hne : r ≠ [] := by rintro rfl; exact hg (List.eq_nil_of_length_eq_zero hr.symm)
  have hlen : (low :: r.dropLast).length = g.length := by
    rw [← hr, ← dropLast_append_topOf hne]; simp
  have hleft : addLow ((g ++ [1]).map (gfMul fb)) (divStep g low fb r) = (low :: r.dropLast) ++ [fb] := by
    rw [← List.append_nil (divStep g low fb r), List.map_append,
      addLow_append (by rw [List.length_map, divStep_length_of_length hr]), divStep,
      zipWith_gfAdd_cancel (by rw [List.length_map, hlen]), addLow_nil, List.map_singleton, gfMul_one]
  have hright : addLow ((low :: r.dropLast) ++ [topOf r]) (zeroRegister g ++ [gfAdd fb (topOf r)]) =
      (low :: r.dropLast) ++ [fb] := by
    rw [addLow_append (by rw [hlen, zeroRegister_length]), zeroRegister, zipWith_gfAdd_zero hlen, addLow, addLow,
      gfAdd_comm fb, gfAdd_gfAdd_cancel_left]
  rw [hleft, ← hright, List.cons_append, dropLast_append_topOf hne]

/-- One step multiplies the dividend by x, adds `low`, and adds what the feedback does not cancel at x^s. -/
theorem mulLow_cons_addLow_divStep {g q r p : List Byte} {low : Byte} (fb : Byte) (hlow : g = [] → low = 0)
    (hr : r.length = g.length) (h : addLow (mulLow q (g ++ [1])) r = p) :
    addLow (mulLow (fb :: q) (g ++ [1])) (divStep g low fb r) =
      addLow (low :: p) (zeroRegister g ++ [gfAdd fb (topOf r)]) := by
  calc addLow (mulLow (fb :: q) (g ++ [1])) (divStep g low fb r)
      = addLow (0 :: mulLow q (g ++ [1])) (addLow ((g ++ [1]).map (gfMul fb)) (divStep g low fb r)) := by
        rw [mulLow, addLow_comm (List.map _ _), addLow_assoc]
    _ = addLow (low :: p) (zeroRegister g ++ [gfAdd fb (topOf r)]) := by
        rw [map_gfMul_addLow_divStep fb hlow hr, ← addLow_assoc, addLow, h, zero_gfAdd]

/-- The encoder's register is the remainder of d(x)*x^s by the generator (R123, R124). -/
theorem exists_encode_quotient (g ds : List Byte) : ∃ q : List Byte, q.length = ds.length ∧
    addLow (mulLow q (g ++ [1])) (encodeRegister g ds) = zeroRegister g ++ ds.reverse := by
  induction ds using List.reverseRecOn with
  | nil => exact ⟨[], rfl, (List.append_nil _).symm⟩
  | append_singleton ds d ih =>
    obtain ⟨q, hlen, h⟩ := ih
    refine ⟨gfAdd d (topOf (encodeRegister g ds)) :: q, by simp [hlen], ?_⟩
    rw [encodeRegister_append, encodeStep, mulLow_cons_addLow_divStep _ (fun _ => rfl) (encodeRegister_length g ds) h,
      gfAdd_assoc, gfAdd_self, gfAdd_zero]
    have hshift : 0 :: (zeroRegister g ++ ds.reverse) = zeroRegister g ++ 0 :: ds.reverse := by
      rw [zeroRegister, ← List.cons_append, ← List.replicate_succ, List.replicate_succ', List.append_assoc]; rfl
    rw [hshift, addLow_append rfl, zeroRegister, zipWith_gfAdd_zero List.length_replicate]
    simp only [addLow, addLow_nil, zero_gfAdd, List.reverse_append, List.reverse_singleton, List.singleton_append]

theorem mulLow_one (q : List Byte) : mulLow q [1] = q := by
  induction q with
  | nil => rfl
  | cons a q ih => simp only [mulLow, List.map_cons, List.map_nil, ih, gfMul_one, addLow, gfAdd_zero]

/-- The check register is the remainder of c(x) by the generator (R128). -/
theorem exists_check_quotient (g cs : List Byte) : ∃ q : List Byte, q.length = cs.length ∧
    addLow (mulLow q (g ++ [1])) (checkRegister g cs) = cs.reverse ++ zeroRegister g := by
  rcases eq_or_ne g [] with rfl | hg
  · refine ⟨cs.reverse, List.length_reverse, ?_⟩
    rw [List.eq_nil_of_length_eq_zero (checkRegister_length [] cs), addLow_nil, List.nil_append, mulLow_one]
    exact (List.append_nil _).symm
  induction cs using List.reverseRecOn with
  | nil => exact ⟨[], rfl, rfl⟩
  | append_singleton cs c ih =>
    obtain ⟨q, hlen, h⟩ := ih
    refine ⟨topOf (checkRegister g cs) :: q, by simp [hlen], ?_⟩
    rw [checkRegister_append, checkStep,
      mulLow_cons_addLow_divStep _ (fun h => absurd h hg) (checkRegister_length g cs) h, gfAdd_self, zeroRegister,
      ← List.replicate_succ', addLow_replicate_zero (by simp)]
    simp

/-! ### Linearity (R131) -/

/-- A register step that keeps the length `n` and takes sums to sums. -/
def LinearStep (n : Nat) (step : List Byte → Byte → List Byte) : Prop :=
  ∀ r r' a a', r.length = n → r'.length = n → (step r a).length = n ∧
    step (List.zipWith gfAdd r r') (gfAdd a a') = List.zipWith gfAdd (step r a) (step r' a')

/-- Linear steps along two sequences of equal length take sums to sums. -/
theorem LinearStep.foldl {n : Nat} {step : List Byte → Byte → List Byte} (h : LinearStep n step) {xs ys : List Byte}
    (hlen : xs.length = ys.length) {r r' : List Byte} (hr : r.length = n) (hr' : r'.length = n) :
    (List.zipWith gfAdd xs ys).foldl step (List.zipWith gfAdd r r') =
      List.zipWith gfAdd (xs.foldl step r) (ys.foldl step r') := by
  induction xs generalizing ys r r' with
  | nil => rw [List.length_nil, eq_comm, List.length_eq_zero_iff] at hlen; subst hlen; rfl
  | cons x xs ih =>
    cases ys with
    | nil => cases hlen
    | cons y ys =>
      rw [List.zipWith_cons_cons, List.foldl_cons, List.foldl_cons, List.foldl_cons, (h r r' x y hr hr').2]
      exact ih (Nat.succ.inj hlen) (h r r' x y hr hr').1 (h r' r y x hr' hr).1

theorem zipWith_gfAdd_comm_comm (p q p' q' : List Byte) :
    List.zipWith gfAdd (List.zipWith gfAdd p q) (List.zipWith gfAdd p' q') =
      List.zipWith gfAdd (List.zipWith gfAdd p p') (List.zipWith gfAdd q q') := by
  refine List.ext_getElem (by simp only [List.length_zipWith]; omega) fun i _ _ => ?_
  simp only [List.getElem_zipWith, gfAdd_assoc, gfAdd_left_comm]

theorem map_gfMul_gfAdd (a b : Byte) (g : List Byte) :
    g.map (gfMul (gfAdd a b)) = List.zipWith gfAdd (g.map (gfMul a)) (g.map (gfMul b)) := by
  induction g with
  | nil => rfl
  | cons c g ih => rw [List.map_cons, ih, gfAdd_gfMul]; rfl

theorem dropLast_zipWith_gfAdd {r r' : List Byte} (h : r.length = r'.length) :
    (List.zipWith gfAdd r r').dropLast = List.zipWith gfAdd r.dropLast r'.dropLast := by
  simp only [List.dropLast_eq_take, List.take_zipWith, List.length_zipWith, h, min_self]

theorem topOf_zipWith_gfAdd {r r' : List Byte} (h : r.length = r'.length) :
    topOf (List.zipWith gfAdd r r') = gfAdd (topOf r) (topOf r') := by
  rcases List.eq_nil_or_concat' r with rfl | ⟨r, a, rfl⟩
  · rw [List.length_nil, eq_comm, List.length_eq_zero_iff] at h; subst h; rfl
  rcases List.eq_nil_or_concat' r' with rfl | ⟨r', a', rfl⟩
  · simp at h
  rw [List.zipWith_append (by simpa using h)]
  exact (topOf_append _ _).trans (by rw [topOf_append, topOf_append])

theorem divStep_zipWith_gfAdd {r r' : List Byte} (h : r.length = r'.length) (g : List Byte) (low low' fb fb' : Byte) :
    divStep g (gfAdd low low') (gfAdd fb fb') (List.zipWith gfAdd r r') =
      List.zipWith gfAdd (divStep g low fb r) (divStep g low' fb' r') := by
  rw [divStep, dropLast_zipWith_gfAdd h, map_gfMul_gfAdd, ← List.zipWith_cons_cons (f := gfAdd),
    zipWith_gfAdd_comm_comm]
  rfl

theorem linearStep_encodeStep (g : List Byte) : LinearStep g.length (encodeStep g) := by
  refine fun r r' a a' hr hr' => ⟨encodeStep_length hr a, ?_⟩
  have h := hr.trans hr'.symm
  simp only [encodeStep, ← divStep_zipWith_gfAdd h, topOf_zipWith_gfAdd h, gfAdd_zero, gfAdd_assoc, gfAdd_left_comm]

theorem linearStep_checkStep (g : List Byte) : LinearStep g.length (checkStep g) := by
  refine fun r r' a a' hr hr' => ⟨checkStep_length hr a, ?_⟩
  have h := hr.trans hr'.symm
  simp only [checkStep, ← divStep_zipWith_gfAdd h, topOf_zipWith_gfAdd h]

theorem zipWith_zeroRegister (g : List Byte) : List.zipWith gfAdd (zeroRegister g) (zeroRegister g) = zeroRegister g :=
  zipWith_gfAdd_zero (zeroRegister_length g)

theorem encodeRegister_zipWith {xs ys : List Byte} (h : xs.length = ys.length) (g : List Byte) :
    encodeRegister g (List.zipWith gfAdd xs ys) = List.zipWith gfAdd (encodeRegister g xs) (encodeRegister g ys) := by
  have hfold := (linearStep_encodeStep g).foldl h (zeroRegister_length g) (zeroRegister_length g)
  rwa [zipWith_zeroRegister] at hfold

theorem topOf_replicate_zero (n : Nat) : topOf (List.replicate n 0) = 0 := by
  cases n with
  | zero => rfl
  | succ n => rw [List.replicate_succ', topOf_append]

theorem cons_dropLast_zeroRegister {g : List Byte} (h : g ≠ []) : 0 :: (zeroRegister g).dropLast = zeroRegister g := by
  cases g with
  | nil => exact absurd rfl h
  | cons a g => rw [zeroRegister, List.length_cons, List.replicate_succ', List.dropLast_concat, ← List.replicate_succ,
      List.replicate_succ']

theorem zipWith_zeroRegister_left {g p : List Byte} (h : p.length = g.length) :
    List.zipWith gfAdd (zeroRegister g) p = p := by
  rw [List.zipWith_comm_of_comm gfAdd_comm, zeroRegister, zipWith_gfAdd_zero h]

/-- A step that shifts zeros up leaves the feedback times the generator. -/
theorem divStep_of_dropLast {g r : List Byte} (fb : Byte) (h : r.dropLast = (zeroRegister g).dropLast) :
    divStep g 0 fb r = g.map (gfMul fb) := by
  rcases eq_or_ne g [] with rfl | hg
  · rfl
  · rw [divStep, h, cons_dropLast_zeroRegister hg, zipWith_zeroRegister_left (List.length_map _)]

/-- Zeros leave the register that is 0 as it is. -/
theorem encodeRegister_replicate_zero (g : List Byte) (m : Nat) :
    encodeRegister g (List.replicate m 0) = zeroRegister g := by
  induction m with
  | zero => rfl
  | succ m ih =>
    rw [List.replicate_succ', encodeRegister_append, ih, encodeStep, divStep_of_dropLast _ rfl, zeroRegister,
      topOf_replicate_zero, gfAdd_zero]
    exact List.map_eq_replicate_iff.2 fun a _ => zero_gfMul a

/-- A single codeword gives its multiple of the generator (R131). -/
theorem encodeRegister_single (g : List Byte) (m : Nat) (d : Byte) :
    encodeRegister g (List.replicate m 0 ++ [d]) = g.map (gfMul d) := by
  rw [encodeRegister_append, encodeRegister_replicate_zero, encodeStep, divStep_of_dropLast _ rfl, zeroRegister,
    topOf_replicate_zero, gfAdd_zero]

/-! ### The two registers -/

theorem checkStep_zeroRegister (g : List Byte) : checkStep g (zeroRegister g) 0 = zeroRegister g := by
  rw [checkStep, divStep_of_dropLast _ rfl, zeroRegister, topOf_replicate_zero]
  exact List.map_eq_replicate_iff.2 fun a _ => zero_gfMul a

/-- Leading zeros do not change the remainder. -/
theorem checkRegister_replicate_zero_append (g : List Byte) (m : Nat) (cs : List Byte) :
    checkRegister g (List.replicate m 0 ++ cs) = checkRegister g cs := by
  induction m with
  | zero => rfl
  | succ m ih =>
    rw [List.replicate_succ, List.cons_append, checkRegister_eq_foldl, List.foldl_cons, checkStep_zeroRegister]
    exact ih

/-- A sequence of at most s codewords is its own remainder. -/
theorem checkRegister_short (g : List Byte) (cs : List Byte) (m : Nat) (h : cs.length + m = g.length) :
    checkRegister g cs = cs.reverse ++ List.replicate m 0 := by
  induction cs using List.reverseRecOn generalizing m with
  | nil => rw [List.length_nil, Nat.zero_add] at h; subst h; rfl
  | append_singleton cs c ih =>
    have hlen : cs.length + (m + 1) = g.length := by rw [← h, List.length_append, List.length_singleton]; omega
    have hzero : g.map (gfMul 0) = List.replicate g.length 0 := List.map_eq_replicate_iff.2 fun a _ => zero_gfMul a
    rw [checkRegister_append, ih (m + 1) hlen, List.replicate_succ', ← List.append_assoc, checkStep, topOf_append,
      divStep, List.dropLast_concat, hzero, zipWith_gfAdd_zero (by simp [← hlen]; omega)]
    simp

theorem checkRegister_zipWith {xs ys : List Byte} (h : xs.length = ys.length) (g : List Byte) :
    checkRegister g (List.zipWith gfAdd xs ys) = List.zipWith gfAdd (checkRegister g xs) (checkRegister g ys) := by
  have hfold := (linearStep_checkStep g).foldl h (zeroRegister_length g) (zeroRegister_length g)
  rwa [zipWith_zeroRegister] at hfold

/-- A codeword followed by s zeros leaves its multiple of the generator. -/
theorem checkRegister_cons_replicate_zero (g : List Byte) (d : Byte) :
    checkRegister g (d :: zeroRegister g) = g.map (gfMul d) := by
  cases g with
  | nil => rfl
  | cons a g =>
    have hzeros : zeroRegister (a :: g) = List.replicate g.length 0 ++ [0] := List.replicate_succ'
    rw [hzeros, ← List.cons_append, checkRegister_append, checkRegister_short _ _ 0 (by simp), checkStep,
      List.reverse_cons, List.replicate_zero, List.append_nil, topOf_append, List.reverse_replicate]
    exact divStep_of_dropLast _ (by rw [hzeros, List.dropLast_concat, List.dropLast_concat])

/-- The encoder's step is the check register's step with a zero, and the codeword times the generator. -/
theorem encodeStep_eq_zipWith {g r : List Byte} (hr : r.length = g.length) (d : Byte) :
    encodeStep g r d = List.zipWith gfAdd (checkStep g r 0) (g.map (gfMul d)) := by
  have hsum := divStep_zipWith_gfAdd (hr.trans (zeroRegister_length g).symm) g 0 0 (topOf r) d
  rw [zeroRegister, zipWith_gfAdd_zero hr, ← zeroRegister, divStep_of_dropLast d rfl, gfAdd_zero, gfAdd_comm] at hsum
  exact hsum

/-- Feeding s zeros to the check register after the data gives the encoder's register (R128). -/
theorem checkRegister_append_zeroRegister (g ds : List Byte) :
    checkRegister g (ds ++ zeroRegister g) = encodeRegister g ds := by
  induction ds using List.reverseRecOn with
  | nil =>
    rw [List.nil_append, zeroRegister, ← List.append_nil (List.replicate _ _), checkRegister_replicate_zero_append]
    rfl
  | append_singleton ds d ih =>
    have hrot : ds ++ (0 :: zeroRegister g) = (ds ++ zeroRegister g) ++ [0] := by
      rw [zeroRegister, ← List.replicate_succ, List.replicate_succ', List.append_assoc]
    have hd : checkRegister g (List.replicate ds.length 0 ++ (d :: zeroRegister g)) = g.map (gfMul d) := by
      rw [checkRegister_replicate_zero_append, checkRegister_cons_replicate_zero]
    have hsum : (ds ++ [d]) ++ zeroRegister g = List.zipWith gfAdd (ds ++ (0 :: zeroRegister g))
        (List.replicate ds.length 0 ++ (d :: zeroRegister g)) := by
      rw [List.zipWith_append (by simp), zipWith_gfAdd_zero rfl, List.zipWith_cons_cons, zipWith_zeroRegister,
        zero_gfAdd, List.append_assoc, List.singleton_append]
    rw [hsum, checkRegister_zipWith (by simp), hd, hrot, checkRegister_append, ih, encodeRegister_append,
      encodeStep_eq_zipWith (encodeRegister_length g ds)]

/-- The data followed by their correction codewords have remainder 0 (R130). -/
theorem checkRegister_encoded (g ds : List Byte) : checkRegister g (ds ++ rsRemainder g ds) = zeroRegister g := by
  have hlen := rsRemainder_length g ds
  have hsum : ds ++ rsRemainder g ds = List.zipWith gfAdd (ds ++ zeroRegister g)
      (List.replicate ds.length 0 ++ rsRemainder g ds) := by
    rw [List.zipWith_append (by simp), zipWith_gfAdd_zero rfl, zipWith_zeroRegister_left hlen]
  rw [hsum, checkRegister_zipWith (by simp [hlen, zeroRegister_length]), checkRegister_append_zeroRegister,
    checkRegister_replicate_zero_append, checkRegister_short g _ 0 hlen, rsRemainder, List.reverse_reverse,
    List.replicate_zero, List.append_nil]
  exact zipWith_gfAdd_self _ |>.trans (by rw [encodeRegister_length]; rfl)

/-! ### A changed codeword is noticed (R128) -/

/-- A register step forgets neither the codeword nor the register when the constant term is not 0. -/
theorem checkStep_cons_inj {a : Byte} (ha : a ≠ 0) {g r r' : List Byte} {c c' : Byte} (hr : r.length = g.length + 1)
    (hr' : r'.length = g.length + 1) (hc : c = c' ∨ r = r') (h : checkStep (a :: g) r c = checkStep (a :: g) r' c') :
    c = c' ∧ r = r' := by
  simp only [checkStep, divStep, List.map_cons, List.zipWith_cons_cons, List.cons.injEq] at h
  obtain ⟨hhead, htail⟩ := h
  rcases hc with rfl | rfl
  · have htop : topOf r = topOf r' := gfMul_right_cancel ha (gfAdd_left_cancel hhead)
    have hdrop : r.dropLast = r'.dropLast := by
      rw [htop] at htail
      rw [← zipWith_gfAdd_cancel (p := g.map (gfMul (topOf r'))) (q := r.dropLast) (by simp [hr]), htail,
        zipWith_gfAdd_cancel (by simp [hr'])]
    refine ⟨rfl, ?_⟩
    rw [← dropLast_append_topOf (List.ne_nil_of_length_eq_add_one hr), hdrop, htop,
      dropLast_append_topOf (List.ne_nil_of_length_eq_add_one hr')]
  · rw [gfAdd_comm c, gfAdd_comm c'] at hhead
    exact ⟨gfAdd_left_cancel hhead, rfl⟩

theorem foldl_checkStep_inj {a : Byte} (ha : a ≠ 0) {g r r' : List Byte} (cs : List Byte) (hr : r.length = g.length + 1)
    (hr' : r'.length = g.length + 1) (h : cs.foldl (checkStep (a :: g)) r = cs.foldl (checkStep (a :: g)) r') :
    r = r' := by
  induction cs generalizing r r' with
  | nil => exact h
  | cons c cs ih =>
    exact (checkStep_cons_inj ha hr hr' (.inl rfl) (ih (checkStep_length hr c) (checkStep_length hr' c) h)).2

/-- Changing one codeword changes the remainder by a generator with a constant term other than 0. -/
theorem checkRegister_set_ne {g cs : List Byte} {a v : Byte} {i : Nat} (hg : g.head? = some a) (ha : a ≠ 0)
    (hi : i < cs.length) (hv : cs[i]? ≠ some v) : checkRegister g (cs.set i v) ≠ checkRegister g cs := by
  obtain ⟨g, rfl⟩ := List.head?_eq_some_iff.1 hg
  intro h
  have hr := checkRegister_length (a :: g) (cs.take i)
  have hcs : cs = cs.take i ++ cs[i] :: cs.drop (i + 1) := by rw [List.cons_getElem_drop_succ, List.take_append_drop]
  rw [List.set_eq_take_append_cons_drop, if_pos hi] at h
  conv_rhs at h => rw [hcs]
  simp only [checkRegister_eq_foldl, List.foldl_append, List.foldl_cons] at h
  have hstep := foldl_checkStep_inj ha _ (checkStep_length hr v) (checkStep_length hr cs[i]) h
  exact hv (List.getElem?_eq_some_iff.2 ⟨hi, (checkStep_cons_inj ha hr hr (.inr rfl) hstep).1.symm⟩)

end Sys2Proof.Machine
end

section
/-! PROOFS, the Reed-Solomon unit: the generator (R120, R121). It is monic, its roots are alpha^1 to alpha^s, and none
of its coefficients is 0; a remainder by it is 0 exactly when all syndromes are (R130). -/

namespace Sys2Proof.Machine

open Claims

/-! ### Multiplication by a linear factor -/

theorem getD_zipWith_shift (r b : Byte) (g : List Byte) (k : Nat) :
    (List.zipWith gfAdd (b :: g) (g.map (gfMul · r) ++ [0])).getD k 0 =
      gfAdd ((b :: g).getD k 0) (gfMul r (g.getD k 0)) := by
  induction g generalizing b k with
  | nil =>
    rw [List.getD_nil, gfMul_zero, gfAdd_zero]
    cases k with
    | zero => exact gfAdd_zero b
    | succ k => rfl
  | cons c g ih =>
    cases k with
    | zero => exact congrArg (gfAdd b) (gfMul_comm c r)
    | succ k => exact ih c k

/-- The coefficient of x^k after multiplication by x + r (R120). -/
theorem getD_mulLinear (r : Byte) (g : List Byte) (k : Nat) :
    (mulLinear r g).getD k 0 = gfAdd ((0 :: g).getD k 0) (gfMul r (g.getD k 0)) := getD_zipWith_shift r 0 g k

theorem mulLinear_append_one (r : Byte) (g : List Byte) :
    mulLinear r (g ++ [1]) = List.zipWith gfAdd (0 :: g) (g.map (gfMul · r) ++ [r]) ++ [1] := by
  rw [mulLinear, List.map_append, ← List.cons_append, List.zipWith_append (by simp), List.map_singleton, one_gfMul]
  rfl

/-- Zero coefficients above do not change the values. -/
theorem evalLow_append_of_zero {z : List Byte} (hz : ∀ a ∈ z, a = 0) (p : List Byte) (x : Byte) :
    evalLow (p ++ z) x = evalLow p x := by
  induction p with
  | nil => exact evalLow_eq_zero hz x
  | cons a p ih => rw [List.cons_append, evalLow_cons, evalLow_cons, ih]

theorem evalLow_mulLinear (r : Byte) (g : List Byte) (x : Byte) :
    evalLow (mulLinear r g) x = gfMul (evalLow g x) (gfAdd x r) := by
  have hmap : g.map (gfMul · r) = g.map (gfMul r) := List.map_congr_left fun a _ => gfMul_comm a r
  rw [mulLinear, ← addLow_eq_zipWith (by simp), evalLow_addLow, evalLow_append_of_zero (by simp), hmap,
    evalLow_map_gfMul, evalLow_cons, zero_gfAdd, ← gfAdd_gfMul, gfMul_comm]

/-! ### The generator -/

/-- The generator is monic. -/
theorem generatorPoly_eq_append_one (n : Nat) : generatorPoly n = (generatorPoly n).take n ++ [1] := by
  have hmonic : ∃ p, generatorPoly n = p ++ [1] := by
    induction n with
    | zero => exact ⟨[], rfl⟩
    | succ n ih =>
      obtain ⟨p, hp⟩ := ih
      exact ⟨_, by rw [generatorPoly, hp, mulLinear_append_one]⟩
  obtain ⟨p, hp⟩ := hmonic
  have hlen : p.length = n := by simpa [hp] using generatorPoly_length n
  rw [hp, List.take_left' hlen]

theorem getElem?_generatorPoly_self (n : Nat) : (generatorPoly n)[n]? = some 1 := by
  rw [generatorPoly_eq_append_one, List.getElem?_append_right (by simp)]
  simp [generatorPoly_length]

/-- The value of the generator is the product of its linear factors (R120). -/
theorem evalLow_generatorPoly (n : Nat) (x : Byte) : evalLow (generatorPoly n) x =
    (List.range n).foldl (fun acc i => gfMul acc (gfAdd x (alphaPow (i + 1)))) 1 := by
  induction n with
  | zero => rw [generatorPoly, evalLow_cons, evalLow_nil, gfMul_zero, gfAdd_zero]; rfl
  | succ n ih => rw [generatorPoly, evalLow_mulLinear, ih, List.range_succ, List.foldl_append]; rfl

/-- alpha^1 to alpha^n are roots of the generator of degree n. -/
theorem evalLow_generatorPoly_alphaPow {n i : Nat} (hi : i < n) : evalLow (generatorPoly n) (alphaPow (i + 1)) = 0 := by
  induction n with
  | zero => cases hi
  | succ n ih =>
    rw [generatorPoly, evalLow_mulLinear, gfMul_eq_zero, gfAdd_eq_zero]
    rcases Nat.lt_succ_iff_lt_or_eq.1 hi with h | rfl
    · exact .inl (ih h)
    · exact .inr rfl

theorem alphaPow_succ (n : Nat) : alphaPow (n + 1) = gfMul (alphaPow 1) (alphaPow n) := by
  rw [gfMul_alphaPow, Nat.add_comm]

/-- One more factor x + u keeps the relation of neighbouring coefficients a, b, c. -/
theorem recurrence_step {q u w a b c : Byte}
    (hup : gfMul (gfMul u (gfAdd (gfMul q w) 1)) a = gfMul (gfAdd u (gfMul q w)) b)
    (hlow : gfMul (gfMul u (gfAdd w 1)) b = gfMul (gfAdd u w) c) :
    gfMul (gfMul (gfMul q u) (gfAdd (gfMul q w) 1)) (gfAdd b (gfMul u a)) =
      gfMul (gfAdd (gfMul q u) (gfMul q w)) (gfAdd c (gfMul u b)) := by
  calc _ = gfAdd (gfMul q (gfMul (gfMul u (gfAdd (gfMul q w) 1)) b))
        (gfMul (gfMul q u) (gfMul (gfMul u (gfAdd (gfMul q w) 1)) a)) := by
        simp only [gfMul_gfAdd, gfAdd_gfMul, gfMul_assoc, gfMul_left_comm]
    _ = gfAdd (gfMul q (gfMul (gfMul u (gfAdd w 1)) b)) (gfMul (gfMul q (gfAdd u w)) (gfMul u b)) := by
        rw [hup]
        simp only [gfMul_gfAdd, gfAdd_gfMul, gfMul_assoc, gfMul_left_comm, gfAdd_comm, gfAdd_left_comm, gfMul_one,
          gfAdd_self]
    _ = gfMul (gfAdd (gfMul q u) (gfMul q w)) (gfAdd c (gfMul u b)) := by
        rw [hlow, ← gfMul_assoc, ← gfMul_gfAdd, ← gfMul_gfAdd]

/-- Two neighbouring coefficients of the generator, by comparing g(alpha*x)*(x + alpha^n) with
alpha^n*(x + 1)*g(x). -/
theorem generatorPoly_recurrence (n k : Nat) :
    gfMul (gfMul (alphaPow (n + 1)) (gfAdd (alphaPow k) 1)) ((generatorPoly n).getD k 0) =
      gfMul (gfAdd (alphaPow (n + 1)) (alphaPow k)) ((0 :: generatorPoly n).getD k 0) := by
  induction n generalizing k with
  | zero =>
    match k with
    | 0 => rfl
    | 1 => exact (gfMul_zero _).trans (gfMul_eq_zero.2 (.inl (gfAdd_self _))).symm
    | k + 2 => exact (gfMul_zero _).trans (gfMul_zero _).symm
  | succ n ih =>
    cases k with
    | zero =>
      rw [alphaPow_zero, gfAdd_self, gfMul_zero, zero_gfMul]
      exact (gfMul_zero _).symm
    | succ k =>
      have hup := ih (k + 1)
      rw [alphaPow_succ k, List.getD_cons_succ] at hup
      rw [List.getD_cons_succ, generatorPoly, getD_mulLinear, getD_mulLinear, List.getD_cons_succ,
        alphaPow_succ (n + 1), alphaPow_succ k]
      exact recurrence_step hup (ih k)

/-- No coefficient of the generator is 0, from the leading one down by the recurrence. -/
theorem getD_generatorPoly_ne_zero {n k : Nat} (hn : n < 255) (hk : k ≤ n) : (generatorPoly n).getD k 0 ≠ 0 := by
  induction hk using Nat.decreasingInduction with
  | self => rw [List.getD_eq_getElem?_getD, getElem?_generatorPoly_self]; decide
  | of_succ k hk ih =>
    intro h
    have hrec := generatorPoly_recurrence n (k + 1)
    rw [List.getD_cons_succ, h, gfMul_zero, gfMul_eq_zero, gfMul_eq_zero, gfAdd_eq_zero] at hrec
    obtain (hu | hk1) | h1 := hrec
    · exact alphaPow_ne_zero _ hu
    · exact absurd (eq_of_alphaPow_eq (n := 0) (by omega) (by decide) hk1) (by omega)
    · exact ih h1

/-! ### Remainder and syndromes (R130) -/

theorem nodup_generator_roots {n : Nat} (hn : n < 255) : ((List.range n).map fun i => alphaPow (i + 1)).Nodup := by
  refine List.Nodup.map_on (fun i hi j hj h => ?_) List.nodup_range
  rw [List.mem_range] at hi hj
  exact Nat.succ.inj (eq_of_alphaPow_eq (by omega) (by omega) h)

/-- At the generator's roots the remainder has the values of the sequence. -/
theorem evalLow_checkRegister {n i : Nat} (hi : i < n) (cs : List Byte) :
    evalLow (checkRegister ((generatorPoly n).take n) cs) (alphaPow (i + 1)) = horner (alphaPow (i + 1)) cs := by
  obtain ⟨q, -, hq⟩ := exists_check_quotient ((generatorPoly n).take n) cs
  rw [← generatorPoly_eq_append_one] at hq
  have hval := congrArg (evalLow · (alphaPow (i + 1))) hq
  rwa [evalLow_addLow, evalLow_mulLow, evalLow_generatorPoly_alphaPow hi, gfMul_zero, zero_gfAdd,
    zeroRegister, evalLow_append_of_zero fun _ => List.eq_of_mem_replicate, ← horner_eq_evalLow] at hval

/-- The remainder by the generator is 0 exactly when the sequence vanishes at every root: the remainder has s
coefficients and the generator s distinct roots. -/
theorem checkRegister_eq_zero_iff {n : Nat} (hn : n < 255) (cs : List Byte) :
    (∀ a ∈ checkRegister ((generatorPoly n).take n) cs, a = 0) ↔
      ∀ i, i < n → horner (alphaPow (i + 1)) cs = 0 := by
  refine ⟨fun h i hi => ?_, fun h => eq_zero_of_roots (nodup_generator_roots hn) ?_ ?_⟩
  · rw [← evalLow_checkRegister hi, evalLow_eq_zero h]
  · simp [checkRegister_length, generatorPoly_length]
  · intro x hx
    obtain ⟨i, hi, rfl⟩ := List.mem_map.1 hx
    rw [List.mem_range] at hi
    rw [evalLow_checkRegister hi, h i hi]

/-- Horner's scheme from `acc` is `acc` at the power of the length, and the sum of the codewords at theirs (R13). -/
theorem foldl_horner (j : Nat) (cs : List Byte) (acc : Byte) :
    cs.foldl (fun acc c => gfAdd (gfMul acc (alphaPow j)) c) acc =
      gfAdd (gfMul acc (alphaPow (j * cs.length))) (evalSeq j cs) := by
  induction cs generalizing acc with
  | nil => rw [List.foldl_nil, List.length_nil, Nat.mul_zero, alphaPow_zero, gfMul_one, evalSeq, gfAdd_zero]
  | cons c cs ih =>
    rw [List.foldl_cons, ih, evalSeq, gfAdd_gfMul, gfMul_assoc, gfMul_alphaPow, gfAdd_assoc, List.length_cons,
      Nat.mul_succ, Nat.add_comm j]

theorem horner_eq_evalSeq (j : Nat) (cs : List Byte) : horner (alphaPow j) cs = evalSeq j cs := by
  rw [horner, foldl_horner, zero_gfMul, zero_gfAdd]

/-! ### The loaded generator -/

theorem getElem?_generatorArray {n k : Nat} (hk : k ≤ 68) :
    (generatorArray n).toList[k]? = some ((generatorPoly n).getD k 0) := by
  rw [generatorArray, bytes_getElem?, if_pos (Nat.lt_succ_of_le hk)]

/-- Up to the leading coefficient GEN holds the generator (R121). -/
theorem getElem?_generatorArray_eq {n k : Nat} (hn : n ≤ 68) (hk : k ≤ n) :
    (generatorArray n).toList[k]? = (generatorPoly n)[k]? := by
  have hlen : k < (generatorPoly n).length := by rw [generatorPoly_length]; omega
  rw [getElem?_generatorArray (by omega), List.getD_eq_getElem _ _ hlen, List.getElem?_eq_getElem hlen]

/-- With a loaded generator the division reads its coefficients below the leading one. -/
theorem genCoeffs_of_generatorArray {s : State} {n : Nat} (hn : n ≤ 68) (h : s.gen = generatorArray n) :
    s.genCoeffs n = (generatorPoly n).take n := by
  refine List.ext_getElem (by simp [generatorPoly_length]) fun i hi _ => ?_
  rw [genCoeffs_length] at hi
  simp only [State.genCoeffs, List.getElem_map, List.getElem_range, List.getElem_take, h]
  rw [List.getD_eq_getElem?_getD, getElem?_generatorArray (by omega), Option.getD_some, List.getD_eq_getElem]

end Sys2Proof.Machine
end

section
/-! PROOFS, the Reed-Solomon unit: the blocks of the codeword buffer (R48, R122) and the commands RS_GEN, RS_ENC, RS_REM
and RS_SYN (R121, R126, R128, R129). -/

namespace Sys2Proof.Machine

open Claims

/-! ### Blocks -/

theorem sizeRom_blocks : ∀ c ∈ sizeRom, 0 < c.b := by decide

/-- D_k counts the indices of the block below D (R48). -/
theorem lt_blockLen {c : SizeClass} {k i : Nat} (hb : 0 < c.b) : i < blockLen c k ↔ k + i * c.b < c.d := by
  rw [blockLen, Nat.lt_iff_add_one_le, Nat.le_div_iff_mul_le hb, Nat.succ_mul]
  omega

theorem mem_dataIndices {c : SizeClass} {k j : Nat} (hk : k < c.b) : j ∈ dataIndices c k ↔ j < c.d ∧ j % c.b = k := by
  have hb : 0 < c.b := by omega
  simp only [dataIndices, List.mem_map, List.mem_range, lt_blockLen hb]
  constructor
  · rintro ⟨i, hi, rfl⟩
    exact ⟨hi, by rw [Nat.add_mul_mod_self_right, Nat.mod_eq_of_lt hk]⟩
  · rintro ⟨hj, rfl⟩
    exact ⟨j / c.b, by rwa [Nat.mod_add_div'], Nat.mod_add_div' j c.b⟩

theorem pairwise_dataIndices {c : SizeClass} (k : Nat) (hb : 0 < c.b) : (dataIndices c k).Pairwise (· < ·) :=
  List.pairwise_map.2 (List.pairwise_lt_range.imp fun h => Nat.add_lt_add_left (Nat.mul_lt_mul_of_pos_right h hb) k)

theorem dataIndices_length (c : SizeClass) (k : Nat) : (dataIndices c k).length = blockLen c k := by simp [dataIndices]

theorem eccIndices_length (c : SizeClass) (k : Nat) : (eccIndices c k).length = c.s := by simp [eccIndices]

/-- A correction codeword's place tells its block. -/
theorem mod_of_mem_eccIndices {c : SizeClass} {k j : Nat} (hk : k < c.b) (hj : j ∈ eccIndices c k) :
    (j - c.d) % c.b = k := by
  obtain ⟨i, -, rfl⟩ := List.mem_map.1 hj
  rw [Nat.add_assoc, Nat.add_sub_cancel_left, Nat.add_mul_mod_self_right, Nat.mod_eq_of_lt hk]

theorem nodup_eccIndices {c : SizeClass} (k : Nat) (hb : 0 < c.b) : (eccIndices c k).Nodup :=
  List.Nodup.map (fun _ _ h => Nat.eq_of_mul_eq_mul_right hb (Nat.add_left_cancel h)) List.nodup_range

/-- No place holds correction codewords of two blocks. -/
theorem nodup_flatMap_eccIndices (c : SizeClass) : ((List.range c.b).flatMap (eccIndices c)).Nodup := by
  refine List.nodup_flatMap.2 ⟨fun k hk => nodup_eccIndices k ?_, List.nodup_range.imp_of_mem ?_⟩
  · exact Nat.zero_lt_of_lt (List.mem_range.1 hk)
  · intro k k' hk hk' hne j hj hj'
    exact hne ((mod_of_mem_eccIndices (List.mem_range.1 hk) hj).symm.trans
      (mod_of_mem_eccIndices (List.mem_range.1 hk') hj'))

/-! ### RS_ENC -/

/-- The data codewords of a block, when they all hold a value. -/
def blockData (c : SizeClass) (cw : Memory) (k : Nat) : List Byte := (Memory.readAll cw (dataIndices c k)).getD []

/-- The cells that RS_ENC writes for the blocks listed, when all data codewords hold a value (R125, R126). -/
def correctionCells (c : SizeClass) (g : List Byte) (cw : Memory) (ks : List Nat) : List Host.Cell :=
  ks.flatMap fun k => (eccIndices c k).zip (rsRemainder g (blockData c cw k))

/-- The codeword buffer after RS_ENC. -/
def encodedCw (c : SizeClass) (g : List Byte) (cw : Memory) : Memory :=
  Memory.writeAll cw (correctionCells c g cw (List.range c.b))

theorem readAll_blockData {c : SizeClass} {s : State} (hb : 0 < c.b) (h : CwHeld s c.d) (k : Nat) :
    Memory.readAll s.cw (dataIndices c k) = some (blockData c s.cw k) := by
  cases hr : Memory.readAll s.cw (dataIndices c k) with
  | some ds => rw [blockData, hr]; rfl
  | none =>
    obtain ⟨j, hj, hnone⟩ := (Memory.readAll_eq_none _ _).1 hr
    obtain ⟨i, hi, rfl⟩ := List.mem_map.1 hj
    have hheld := h _ ((lt_blockLen hb).1 (List.mem_range.1 hi))
    rw [State.cwAt, hnone] at hheld
    cases hheld

theorem encodeWrites_eq_none {c : SizeClass} {g : List Byte} {cw : Memory} {ks : List Nat} {k : Nat} (hk : k ∈ ks)
    (h : Memory.readAll cw (dataIndices c k) = none) : encodeWrites c g cw ks = none := by
  induction ks with
  | nil => cases hk
  | cons k' ks ih =>
    rw [encodeWrites]
    rcases List.mem_cons.1 hk with rfl | hk
    · rw [blockWrites, h]; rfl
    · rw [ih hk]; cases blockWrites c g cw k' <;> rfl

theorem encodeWrites_eq_some {c : SizeClass} {g : List Byte} {cw : Memory} {ks : List Nat}
    (h : ∀ k, Memory.readAll cw (dataIndices c k) = some (blockData c cw k)) :
    encodeWrites c g cw ks = some (correctionCells c g cw ks) := by
  induction ks with
  | nil => rfl
  | cons k ks ih => rw [encodeWrites, ih, blockWrites, h]; rfl

theorem exec_rsEnc_eq {s : State} {c : SizeClass} (hc : s.sizeClass? = some c) (hg : s.genS.toNat = c.s) :
    exec .rsEnc s = andThen (rsEncBody c s) succeed :=
  (withClass_some hc _).trans (if_neg (not_not.2 hg))

/-- RS_ENC with all data codewords held. -/
theorem exec_rsEnc_of_held {s : State} {c : SizeClass} (hc : s.sizeClass? = some c) (hg : s.genS.toNat = c.s)
    (h : CwHeld s c.d) :
    exec .rsEnc s = .next (complete (s.setCw (encodedCw c (s.genCoeffs c.s) s.cw))) := by
  have hb := sizeRom_blocks c (sizeClass_mem hc)
  rw [exec_rsEnc_eq hc hg, rsEncBody, encodeWrites_eq_some (readAll_blockData hb h)]
  rfl

/-- RS_ENC with a data codeword that holds no value. -/
theorem exec_rsEnc_of_not_held {s : State} {c : SizeClass} (hc : s.sizeClass? = some c) (hg : s.genS.toNat = c.s)
    (h : ¬ CwHeld s c.d) : exec .rsEnc s = .fault .uninitRead := by
  have hb := sizeRom_blocks c (sizeClass_mem hc)
  obtain ⟨j, hj, hnone⟩ : ∃ j, j < c.d ∧ s.cwAt j = none := by simpa [CwHeld] using h
  have hread : Memory.readAll s.cw (dataIndices c (j % c.b)) = none :=
    (Memory.readAll_eq_none _ _).2 ⟨j, (mem_dataIndices (Nat.mod_lt j hb)).2 ⟨hj, rfl⟩, hnone⟩
  rw [exec_rsEnc_eq hc hg, rsEncBody, encodeWrites_eq_none (List.mem_range.2 (Nat.mod_lt j hb)) hread]
  rfl

/-- The places of the cells that RS_ENC writes. -/
theorem map_fst_correctionCells {c : SizeClass} {g : List Byte} (hg : g.length = c.s) (cw : Memory) (ks : List Nat) :
    (correctionCells c g cw ks).map (·.1) = ks.flatMap (eccIndices c) := by
  rw [correctionCells, List.map_flatMap]
  exact congrArg (ks.flatMap ·) (funext fun k => List.map_fst_zip (by rw [eccIndices_length, rsRemainder_length, hg]))

/-- The correction codewords stand where R125 puts them. -/
theorem read_encodedCw_ecc {c : SizeClass} {g : List Byte} (hg : g.length = c.s) (cw : Memory) {k i : Nat}
    (hk : k < c.b) (hi : i < c.s) :
    Memory.read (encodedCw c g cw) (c.d + k + i * c.b) = (rsRemainder g (blockData c cw k))[i]? := by
  have hlen : i < (rsRemainder g (blockData c cw k)).length := by rwa [rsRemainder_length, hg]
  have hidx : (eccIndices c k)[i]? = some (c.d + k + i * c.b) := by simp [eccIndices, hi]
  rw [List.getElem?_eq_getElem hlen]
  refine Memory.read_writeAll_of_mem _ _ ?_ (List.mem_flatMap.2 ⟨k, List.mem_range.2 hk, ?_⟩)
  · rw [map_fst_correctionCells hg]; exact nodup_flatMap_eccIndices c
  · exact List.mem_of_getElem? (List.getElem?_zip_eq_some.2 ⟨hidx, List.getElem?_eq_getElem hlen⟩)

/-- RS_ENC keeps every codeword but the correction codewords. -/
theorem read_encodedCw_of_outside {c : SizeClass} (hc : c ∈ sizeRom) {g : List Byte} (hg : g.length = c.s) (cw : Memory)
    {j : Nat} (hj : ¬ (c.d ≤ j ∧ j < c.n)) : Memory.read (encodedCw c g cw) j = Memory.read cw j := by
  refine Memory.read_writeAll_of_not_mem _ _ _ fun cell hcell hkey => hj ?_
  have hmem := List.mem_map_of_mem (f := (·.1)) hcell
  rw [map_fst_correctionCells hg, List.mem_flatMap] at hmem
  obtain ⟨k, hk, hecc⟩ := hmem
  exact hkey ▸ eccIndices_bounds hc (List.mem_range.1 hk) hecc

/-- After RS_ENC a block holds its data, then their correction codewords. -/
theorem readAll_encodedCw {c : SizeClass} (hc : c ∈ sizeRom) {g : List Byte} (hg : g.length = c.s) {s : State}
    (h : CwHeld s c.d) {k : Nat} (hk : k < c.b) : Memory.readAll (encodedCw c g s.cw) (blockIndices c k) =
      some (blockData c s.cw k ++ rsRemainder g (blockData c s.cw k)) := by
  have hdata := readAll_blockData (sizeRom_blocks c hc) h k
  rw [Memory.readAll_eq_some] at hdata ⊢
  rw [blockIndices, List.map_append, List.map_append, ← hdata]
  congr 1
  · refine List.map_congr_left fun j hj => read_encodedCw_of_outside hc hg _ fun hd => ?_
    exact absurd ((mem_dataIndices hk).1 hj).1 (by omega)
  · refine List.ext_getElem (by simp [eccIndices_length, rsRemainder_length, hg]) fun i hi _ => ?_
    have hi : i < c.s := by simpa [eccIndices_length] using hi
    have hlen : i < (rsRemainder g (blockData c s.cw k)).length := by rwa [rsRemainder_length, hg]
    simp only [eccIndices, List.getElem_map, List.getElem_range]
    rw [read_encodedCw_ecc hg _ hk hi, List.getElem?_eq_getElem hlen]

/-! ### RS_REM and RS_SYN -/

section Block

variable {s : State} {c : SizeClass} {k : Nat} (f : SizeClass → List Byte → Result)

theorem sizeClass_s_le (hc : s.sizeClass? = some c) : c.s ≤ 68 := by
  obtain ⟨-, -, -, -, -, -, -, -, -, hs, -⟩ := sizeRom_bounds c (sizeClass_mem hc)
  exact hs

theorem withBlock_noClass (k : Nat) (hc : s.sizeClass? = none) : withBlock k s f = raiseError .badSize s :=
  withClass_none hc _

theorem withBlock_badBlock (hc : s.sizeClass? = some c) (hk : c.b ≤ k) : withBlock k s f = raiseError .badBlock s :=
  (withClass_some hc _).trans (if_pos hk)

theorem withBlock_genMismatch (hc : s.sizeClass? = some c) (hk : k < c.b) (hg : s.genS.toNat ≠ c.s) :
    withBlock k s f = raiseError .genMismatch s :=
  (withClass_some hc _).trans ((if_neg (Nat.not_le.2 hk)).trans (if_pos hg))

theorem withBlock_uninit (hc : s.sizeClass? = some c) (hk : k < c.b) (hg : s.genS.toNat = c.s)
    (h : ∃ j ∈ blockIndices c k, s.cwAt j = none) : withBlock k s f = .fault .uninitRead := by
  have hr := (Memory.readAll_eq_none s.cw (blockIndices c k)).2 h
  rw [withBlock, withClass_some hc, if_neg (Nat.not_le.2 hk), if_neg (not_not.2 hg), hr]

theorem withBlock_of_read {cs : List Byte} (hc : s.sizeClass? = some c) (hk : k < c.b) (hg : s.genS.toNat = c.s)
    (hr : Memory.readAll s.cw (blockIndices c k) = some cs) : withBlock k s f = f c cs := by
  rw [withBlock, withClass_some hc, if_neg (Nat.not_le.2 hk), if_neg (not_not.2 hg), hr]

/-- What a command that answers without error has found. -/
theorem withBlock_eq_next_of_noError {t : State} (h : withBlock k s f = .next t) (he : t.errCode = .none) :
    ∃ c cs, s.sizeClass? = some c ∧ k < c.b ∧ s.genS.toNat = c.s ∧
      Memory.readAll s.cw (blockIndices c k) = some cs := by
  have hraise : ∀ e, raiseError e s = .next t → e = .none := fun e hr => by
    rw [raiseError_eq_next] at hr; subst hr; exact he
  rcases withBlock_cases k s f with ⟨_, hw⟩ | ⟨c, hc, ⟨_, hw⟩ | ⟨_, _, hw⟩ | ⟨_, _, _, hw⟩ | ⟨cs, hk, hg, hr, _⟩⟩
  · cases hraise _ (hw.symm.trans h)
  · cases hraise _ (hw.symm.trans h)
  · cases hraise _ (hw.symm.trans h)
  · cases hw.symm.trans h
  · exact ⟨c, cs, hc, hk, hg, hr⟩

theorem exec_rsRem_of_read {cs : List Byte} (hc : s.sizeClass? = some c) (hk : k < c.b) (hg : s.genS.toNat = c.s)
    (hr : Memory.readAll s.cw (blockIndices c k) = some cs) : exec (.rsRem k) s = .next (complete
      (s.setRem (remArray (s.genCoeffs c.s) cs) (allZero c.s (remArray (s.genCoeffs c.s) cs)))) :=
  withBlock_of_read _ hc hk hg hr

theorem exec_rsSyn_of_read {cs : List Byte} (hc : s.sizeClass? = some c) (hk : k < c.b) (hg : s.genS.toNat = c.s)
    (hr : Memory.readAll s.cw (blockIndices c k) = some cs) : exec (.rsSyn k) s = .next (complete
      (s.setSyn (synArray c.s cs) (allZero c.s (synArray c.s cs)))) :=
  withBlock_of_read _ hc hk hg hr

end Block

/-- ZERO is 1 exactly when the first entries read 0. -/
theorem allZero_iff_getElem? {n : Nat} (hn : n ≤ 68) (out : Vector Byte 68) :
    allZero n out = true ↔ ∀ i, i < n → out.toList[i]? = some 0 := by
  rw [allZero_iff]
  refine forall_congr' fun i => imp_congr_right fun hi => ?_
  have hlen : i < out.toList.length := by rw [Vector.length_toList]; omega
  rw [List.getD_eq_getElem _ _ hlen, List.getElem?_eq_getElem hlen, Option.some.injEq]

/-- REM[i] is the coefficient of x^(s-1-i) of the register, and 0 from s on (R128). -/
theorem getElem?_remArray (g cs : List Byte) {i : Nat} (hi : i < 68) :
    (remArray g cs).toList[i]? =
      if i < g.length then (checkRegister g cs)[g.length - 1 - i]? else some 0 := by
  have hlen := checkRegister_length g cs
  rw [remArray, bytes_getElem?, if_pos hi]
  split
  · next h =>
    rw [List.getD_eq_getElem _ _ (by rwa [List.length_reverse, hlen]), List.getElem_reverse,
      List.getElem?_eq_getElem (by omega)]
    simp only [hlen]
  · next h => rw [List.getD_eq_default _ _ (by rw [List.length_reverse, hlen]; omega)]

/-- SYN[i] is the value of the sequence at alpha^(i+1), and 0 from s on (R129). -/
theorem getElem?_synArray (n : Nat) (cs : List Byte) {i : Nat} (hi : i < 68) :
    (synArray n cs).toList[i]? = some (if i < n then horner (alphaPow (i + 1)) cs else 0) := by
  rw [synArray, bytes_getElem?, if_pos hi]

/-- RS_REM gives ZERO exactly when the register is 0. -/
theorem allZero_remArray {g : List Byte} {n : Nat} (hg : g.length = n) (hn : n ≤ 68) (cs : List Byte) :
    allZero n (remArray g cs) = true ↔ ∀ a ∈ checkRegister g cs, a = 0 := by
  rw [allZero_iff_getElem? hn]
  simp only [← List.mem_reverse (as := checkRegister g cs)]
  have hlen : (checkRegister g cs).reverse.length = n := by
    rw [List.length_reverse, checkRegister_length, hg]
  simp only [List.forall_mem_iff_getElem, hlen]
  refine forall_congr' fun i => forall_congr' fun hi => ?_
  rw [remArray, bytes_getElem?, if_pos (by omega), Option.some.injEq, List.getD_eq_getElem _ _ (by rwa [hlen])]

theorem allZero_remArray_encoded {g : List Byte} {n : Nat} (hg : g.length = n) (hn : n ≤ 68) (ds : List Byte) :
    allZero n (remArray g (ds ++ rsRemainder g ds)) = true := by
  rw [allZero_remArray hg hn, checkRegister_encoded]
  exact fun a => List.eq_of_mem_replicate

/-- RS_SYN gives ZERO exactly when the sequence vanishes at alpha^1 to alpha^n. -/
theorem allZero_synArray {n : Nat} (hn : n ≤ 68) (cs : List Byte) :
    allZero n (synArray n cs) = true ↔ ∀ i, i < n → horner (alphaPow (i + 1)) cs = 0 := by
  rw [allZero_iff_getElem? hn]
  refine forall_congr' fun i => imp_congr_right fun hi => ?_
  rw [getElem?_synArray n cs (by omega), if_pos hi, Option.some.injEq]

/-- With the generator of degree n loaded the two commands agree on ZERO (R130). -/
theorem allZero_remArray_eq_allZero_synArray {n : Nat} (hn : n ≤ 68) (cs : List Byte) :
    allZero n (remArray ((generatorPoly n).take n) cs) = allZero n (synArray n cs) := by
  have hlen : ((generatorPoly n).take n).length = n := by simp [generatorPoly_length]
  rw [Bool.eq_iff_iff, allZero_remArray hlen hn, allZero_synArray hn, checkRegister_eq_zero_iff (by omega)]

end Sys2Proof.Machine
end

section

open Sys2Proof Sys2Proof.Machine Sys2Proof.Claims

/-- Settles O20: index i of the data is in block k exactly when i mod b = k. -/
theorem blocksPartitionTheData : Obligations.BlocksPartitionTheData := by
  refine ⟨fun c hc => ⟨fun i hi k hk => ?_, fun k hk => ⟨pairwise_dataIndices k (sizeRom_blocks c hc), fun i hi => ?_,
    dataIndices_length c k, rfl⟩⟩, fun c hc => ?_⟩
  · rw [mem_dataIndices hk, and_iff_right hi, eq_comm]
  · exact ((mem_dataIndices hk).1 hi).1
  · cases hc
    decide

/-- Settles O10: GEN is the generator's coefficients with zeros above the leading one. -/
theorem rsGenLoadsGenerator : Obligations.RsGenLoadsGenerator := by
  refine ⟨runsAs_oneOperand (i := fun a => .rsGen a.toNat) fun w hz hop => by simp [decode, hz, hop],
    fun s n hn => ?_, fun s n h1 h68 => ⟨generatorArray n, if_pos ⟨h1, h68⟩, fun k hk => ?_, ?_, fun k hk hk68 => ?_⟩,
    by decide +kernel, by decide⟩
  · exact if_neg fun h => by rw [Config.maxS] at h; omega
  · exact getElem?_generatorArray_eq h68 hk
  · rw [getElem?_generatorArray_eq h68 le_rfl, getElem?_generatorPoly_self]
  · rw [getElem?_generatorArray hk68, List.getD_eq_default _ _ (by rw [generatorPoly_length]; omega)]

/-- Settles O11: multiplication by x + r multiplies the values by it; no coefficient is 0 by
`generatorPoly_recurrence`. -/
theorem generatorIsProductOfRoots : Obligations.GeneratorIsProductOfRoots := by
  refine fun n _ h68 => ⟨generatorPoly_length n, getElem?_generatorPoly_self n, evalLow_generatorPoly n, fun a ha => ?_⟩
  obtain ⟨k, hk, rfl⟩ := List.mem_iff_getElem.1 ha
  rw [generatorPoly_length] at hk
  rw [← List.getD_eq_getElem _ 0]
  exact getD_generatorPoly_ne_zero (by omega) (by omega)

/-- Settles O13: by induction on the data, each step puts the feedback before the quotient. -/
theorem encoderRegisterIsDivisionRemainder : Obligations.EncoderRegisterIsDivisionRemainder := by
  intro g ds
  obtain ⟨q, hlen, hq⟩ := exists_encode_quotient g ds
  exact ⟨q, hlen, rsRemainder_length g ds, by rwa [rsRemainder, List.reverse_reverse]⟩

/-- Settles O14: a register step is linear; a register that is 0 makes the feedback times the generator. -/
theorem correctionIsLinear : Obligations.CorrectionIsLinear := by
  refine ⟨fun g xs ys h => ?_, fun g m => ?_, fun g m d => ?_⟩
  · have hlen : (encodeRegister g xs).length = (encodeRegister g ys).length := by
      rw [encodeRegister_length, encodeRegister_length]
    rw [rsRemainder, encodeRegister_zipWith h, List.reverse_zipWith hlen]
    rfl
  · rw [rsRemainder, encodeRegister_replicate_zero, zeroRegister, List.reverse_replicate]
  · rw [rsRemainder, encodeRegister_single]

/-- Settles O16: division as for the encoder; a step is injective in the codeword and in the register when the constant
term is not 0; feeding zeros rotates the register to the encoder's. -/
theorem checkRegisterIsDivisionRemainder : Obligations.CheckRegisterIsDivisionRemainder := by
  refine ⟨fun g cs => ?_, fun g cs a v i hg ha hi hv hzero => ?_, checkRegister_append_zeroRegister, by decide +kernel⟩
  · obtain ⟨q, hlen, hq⟩ := exists_check_quotient g cs
    exact ⟨q, hlen, checkRegister_length g cs, hq⟩
  · exact hzero ▸ checkRegister_set_ne hg ha hi hv

/-- Settles O12: the places of the correction codewords differ, so each is written once. -/
theorem rsEncWritesInterleavedCorrection : Obligations.RsEncWritesInterleavedCorrection := by
  refine ⟨runsAs_noOperand fun w hz hop => by simp [decode, hz, hop], fun s hc => withClass_none hc _,
    fun s c hc hg => (withClass_some hc _).trans (if_pos hg), fun s c hc hg h => exec_rsEnc_of_not_held hc hg h,
    fun s c hc hg h => ?_, by decide +kernel⟩
  have hmem := sizeClass_mem hc
  have hlen := genCoeffs_length s c.s
  refine ⟨encodedCw c (s.genCoeffs c.s) s.cw, exec_rsEnc_of_held hc hg h, fun k hk => ?_,
    fun j hj => read_encodedCw_of_outside hmem hlen s.cw hj⟩
  refine ⟨blockData c s.cw k, readAll_blockData (sizeRom_blocks c hmem) h k, fun i hi => ⟨?_,
    read_encodedCw_ecc hlen s.cw hk hi⟩⟩
  rw [List.getElem?_eq_getElem (by rwa [rsRemainder_length, hlen])]
  rfl

/-- Settles O15: the checks of `withBlock`, then REM from the register. -/
theorem rsRemWritesRemainder : Obligations.RsRemWritesRemainder := by
  refine ⟨runsAs_oneOperand (i := fun a => .rsRem a.toNat) fun w hz hop => by simp [decode, hz, hop],
    fun s k hc => withBlock_noClass _ k hc, fun s k c hc hk => withBlock_badBlock _ hc hk,
    fun s k c hc hk hg => withBlock_genMismatch _ hc hk hg, fun s k c hc hk hg h => withBlock_uninit _ hc hk hg h,
    fun s k c cs hc hk hg hr => ⟨remArray (s.genCoeffs c.s) cs, _, exec_rsRem_of_read hc hk hg hr,
      fun i hi => ?_, fun i hi h68 => ?_, allZero_iff_getElem? (sizeClass_s_le hc) _⟩⟩
  · have := sizeClass_s_le hc
    rw [getElem?_remArray _ _ (by omega), genCoeffs_length, if_pos hi]
  · rw [getElem?_remArray _ _ h68, genCoeffs_length, if_neg (by omega)]

/-- Settles O17: the checks of `withBlock`, then SYN by Horner's scheme, which is the sum of R13. -/
theorem rsSynWritesSyndromes : Obligations.RsSynWritesSyndromes := by
  refine ⟨runsAs_oneOperand (i := fun a => .rsSyn a.toNat) fun w hz hop => by simp [decode, hz, hop],
    fun s k hc => withBlock_noClass _ k hc, fun s k c hc hk => withBlock_badBlock _ hc hk,
    fun s k c hc hk hg => withBlock_genMismatch _ hc hk hg, fun s k c hc hk hg h => withBlock_uninit _ hc hk hg h,
    fun s k c cs hc hk hg hr => ⟨synArray c.s cs, _, exec_rsSyn_of_read hc hk hg hr,
      fun j hj1 hj => ?_, fun i hi h68 => ?_, allZero_iff_getElem? (sizeClass_s_le hc) _⟩, by decide +kernel⟩
  · have := sizeClass_s_le hc
    rw [getElem?_synArray _ _ (by omega), if_pos (by omega), Nat.sub_add_cancel hj1, horner_eq_evalSeq]
  · rw [getElem?_synArray _ _ h68, if_neg (by omega)]

/-- Settles O18: the data followed by their correction codewords have remainder 0, so all syndromes are 0. -/
theorem encodedBlocksCheckToZero : Obligations.EncodedBlocksCheckToZero := by
  intro s t c hc hg hgen h ht k hk
  have hlen := genCoeffs_length s c.s
  have hs := sizeClass_s_le hc
  obtain rfl : complete (s.setCw (encodedCw c (s.genCoeffs c.s) s.cw)) = t := by
    simpa using (exec_rsEnc_of_held hc hg h).symm.trans ht
  have hread := readAll_encodedCw (sizeClass_mem hc) hlen h hk
  have hrem := allZero_remArray_encoded hlen hs (blockData c s.cw k)
  refine ⟨⟨_, exec_rsRem_of_read hc hk hg hread, hrem, rfl⟩, ⟨_, exec_rsSyn_of_read hc hk hg hread, ?_, rfl⟩⟩
  rw [genCoeffs_of_generatorArray hs hgen, allZero_remArray_eq_allZero_synArray hs] at hrem
  rw [genCoeffs_of_generatorArray hs hgen]
  exact hrem

/-- Settles O19: the remainder by the generator is 0 exactly when all syndromes are. -/
theorem remainderAndSyndromesAgreeOnZero : Obligations.RemainderAndSyndromesAgreeOnZero := by
  intro s u v k hgen hu hv herr
  obtain ⟨c, cs, hc, hk, hg, hr⟩ := withBlock_eq_next_of_noError _ hu herr
  obtain rfl := Host.Outcome.next.inj ((exec_rsRem_of_read hc hk hg hr).symm.trans hu)
  obtain rfl := Host.Outcome.next.inj ((exec_rsSyn_of_read hc hk hg hr).symm.trans hv)
  rw [hg] at hgen
  rw [genCoeffs_of_generatorArray (sizeClass_s_le hc) hgen]
  exact ⟨rfl, allZero_remArray_eq_allZero_synArray (sizeClass_s_le hc) cs⟩

end

section
/-! PROOFS, the placement engine (spec/42_placement.md): the bits of MASK and the cells of a layout (R39, R163), the gap
translation (R154) and the finder (R151). -/

namespace Sys2Proof.Machine

open Claims

/-! ### The bits of MASK (R39) -/

theorem getLsbD_setMask {m : MaskBits} {r k : Int} {i : Nat} :
    (setMask m r k).getLsbD i = true ↔ m.getLsbD i = true ∨ i < 132 * 132 ∧ maskIndex r k = i := by
  rw [setMask, BitVec.getLsbD_or, BitVec.getLsbD_ofNat, Nat.one_shiftLeft, Nat.testBit_two_pow, Bool.or_eq_true,
    Bool.and_eq_true, decide_eq_true_iff, decide_eq_true_iff]

/-- Assigning cells sets their bits and no other. -/
theorem getLsbD_assignCells {c : SizeClass} {m m' : MaskBits} {cells : List MapCell}
    (h : assignCells c m cells = some m') {i : Nat} : m'.getLsbD i = true ↔
      m.getLsbD i = true ∨ i < 132 * 132 ∧ ∃ cell ∈ cells, maskIndex cell.1 cell.2 = i := by
  induction cells generalizing m with
  | nil => cases h; simp
  | cons cell rest ih =>
    obtain ⟨-, -, h⟩ := assignCells_cons.1 h
    rw [ih h, getLsbD_setMask, or_assoc, ← and_or_left, List.exists_mem_cons_iff]

/-- Cells that fit into MASK have different bits (R39). -/
theorem maskIndex_inj {r k r' k' : Int} (hr : 0 ≤ r) (hk : 0 ≤ k ∧ k < 132) (hr' : 0 ≤ r')
    (hk' : 0 ≤ k' ∧ k' < 132) (h : maskIndex r k = maskIndex r' k') : r = r' ∧ k = k' := by
  simp only [maskIndex, Config.mapDim] at h
  omega

/-- A cell that is assigned already cannot be assigned again, whatever the class (R163, R167). -/
theorem maskBit_of_assignCells {c : SizeClass} {m m' : MaskBits} {cells : List MapCell}
    (h : assignCells c m cells = some m') : ∀ cell ∈ cells, maskBit m cell.1 cell.2 = false := by
  induction cells generalizing m with
  | nil => simp
  | cons a rest ih =>
    obtain ⟨-, ha, h⟩ := assignCells_cons.1 h
    refine List.forall_mem_cons.2 ⟨ha, fun b hb => ?_⟩
    have hset := ih h b hb
    rw [← Bool.not_eq_true, maskBit, getLsbD_setMask] at hset
    exact Bool.not_eq_true _ ▸ fun hm => hset (.inl hm)

section Matrix

variable {c : SizeClass} (hc : c ∈ sizeRom)

include hc

theorem maskIndex_inj_of_inMatrix {a b : MapCell} (ha : inMatrix c a.1 a.2 = true) (hb : inMatrix c b.1 b.2 = true)
    (h : maskIndex a.1 a.2 = maskIndex b.1 b.2) : a = b := by
  obtain ⟨-, hrow, -, hcol, -⟩ := sizeRom_bounds c hc
  rw [inMatrix_iff] at ha hb
  exact Prod.ext_iff.2 (maskIndex_inj ha.1.1 (by omega) hb.1.1 (by omega) h)

theorem maskIndex_lt {a : MapCell} (ha : inMatrix c a.1 a.2 = true) : maskIndex a.1 a.2 < 132 * 132 := by
  obtain ⟨-, hrow, -, hcol, -⟩ := sizeRom_bounds c hc
  rw [inMatrix_iff] at ha
  simp only [maskIndex, Config.mapDim]
  omega

theorem maskBit_setMask {m : MaskBits} {a b : MapCell} (ha : inMatrix c a.1 a.2 = true)
    (hb : inMatrix c b.1 b.2 = true) :
    maskBit (setMask m a.1 a.2) b.1 b.2 = true ↔ maskBit m b.1 b.2 = true ∨ a = b := by
  rw [maskBit, maskBit, getLsbD_setMask, and_iff_right (maskIndex_lt hc hb)]
  exact or_congr_right ⟨maskIndex_inj_of_inMatrix hc ha hb, fun h => h ▸ rfl⟩

theorem maskBit_assignCells {m m' : MaskBits} {cells : List MapCell} (h : assignCells c m cells = some m')
    {a : MapCell} (ha : inMatrix c a.1 a.2 = true) :
    maskBit m' a.1 a.2 = true ↔ maskBit m a.1 a.2 = true ∨ a ∈ cells := by
  rw [maskBit, maskBit, getLsbD_assignCells h, and_iff_right (maskIndex_lt hc ha)]
  refine or_congr_right ⟨?_, fun hmem => ⟨a, hmem, rfl⟩⟩
  rintro ⟨cell, hmem, hi⟩
  exact maskIndex_inj_of_inMatrix hc (assignCells_inMatrix h cell hmem) ha hi ▸ hmem

/-- Cells can be assigned exactly when they differ, lie in the matrix and are not assigned yet (R163, R167). -/
theorem assignCells_isSome_iff {m : MaskBits} {cells : List MapCell} : (∃ m', assignCells c m cells = some m') ↔
    cells.Nodup ∧ ∀ cell ∈ cells, inMatrix c cell.1 cell.2 = true ∧ maskBit m cell.1 cell.2 = false := by
  induction cells generalizing m with
  | nil => simp [assignCells]
  | cons a rest ih =>
    have hset (ha : inMatrix c a.1 a.2 = true) : (∀ b ∈ rest, inMatrix c b.1 b.2 = true ∧
        maskBit (setMask m a.1 a.2) b.1 b.2 = false) ↔
        a ∉ rest ∧ ∀ b ∈ rest, inMatrix c b.1 b.2 = true ∧ maskBit m b.1 b.2 = false := by
      rw [← List.forall_mem_ne', ← forall₂_and]
      refine forall₂_congr fun b _ => ?_
      by_cases hb : inMatrix c b.1 b.2 = true
      · simp only [hb, true_and, ← Bool.not_eq_true, maskBit_setMask hc ha hb]; tauto
      · simp [hb]
    refine (exists_congr fun _ => assignCells_cons).trans ?_
    rw [exists_and_left, exists_and_left, ih, List.nodup_cons, List.forall_mem_cons]
    constructor
    · rintro ⟨ha, hm, hnd, h⟩
      obtain ⟨hnot, h⟩ := (hset ha).1 h
      exact ⟨⟨hnot, hnd⟩, ⟨ha, hm⟩, h⟩
    · rintro ⟨⟨hnot, hnd⟩, ⟨ha, hm⟩, h⟩
      exact ⟨ha, hm, hnd, (hset ha).2 ⟨hnot, h⟩⟩

end Matrix

/-! ### Reads after a list of writes -/

/-- A key that is written reads as one of the cells written to it. -/
theorem Memory.read_writeAll_of_written {m : Memory} {cells : List Host.Cell} {k : Nat}
    (h : ∃ cell ∈ cells, cell.1 = k) :
    ∃ cell ∈ cells, cell.1 = k ∧ Memory.read (Memory.writeAll m cells) k = some cell.2 := by
  induction cells generalizing m with
  | nil => simp at h
  | cons a rest ih =>
    by_cases hrest : ∃ cell ∈ rest, cell.1 = k
    · obtain ⟨cell, hmem, hread⟩ := ih hrest
      exact ⟨cell, List.mem_cons_of_mem _ hmem, hread⟩
    · have ha : a.1 = k := by
        rw [List.exists_mem_cons_iff] at h
        exact h.resolve_right hrest
      push Not at hrest
      refine ⟨a, List.mem_cons_self, ha, ?_⟩
      rw [Memory.writeAll_cons, Memory.read_writeAll_of_not_mem _ _ _ hrest, ← ha, Memory.read_write_same]

/-! ### The gap translation (R154) -/

theorem gap_inj {len k k' : Nat} (h : k + 2 * (k / len) + 1 = k' + 2 * (k' / len) + 1) : k = k' := by
  rcases Nat.lt_trichotomy k k' with hlt | heq | hgt
  · have := Nat.div_le_div_right (c := len) hlt.le; omega
  · exact heq
  · have := Nat.div_le_div_right (c := len) hgt.le; omega

/-- Inside a region every coordinate is a translated one. -/
theorem exists_gap {q len x : Nat} (hx : x < q * (len + 2)) (h0 : x % (len + 2) ≠ 0)
    (h1 : x % (len + 2) ≠ len + 1) :
    ∃ k, k < q * len ∧ x = k + 2 * (k / len) + 1 := by
  have hmod := Nat.mod_lt x (show 0 < len + 2 by omega)
  have hdiv : x / (len + 2) < q := Nat.div_lt_of_lt_mul (by rwa [Nat.mul_comm])
  have hx' := Nat.div_add_mod x (len + 2)
  have hlast : len * (x / (len + 2) + 1) ≤ len * q := Nat.mul_le_mul_left _ hdiv
  rw [Nat.add_mul] at hx'
  rw [Nat.mul_add, Nat.mul_comm len q] at hlast
  refine ⟨len * (x / (len + 2)) + (x % (len + 2) - 1), by omega, ?_⟩
  have hrest : (x % (len + 2) - 1) / len = 0 := Nat.div_eq_of_lt (by omega)
  rw [Nat.mul_add_div (by omega), hrest]
  omega

theorem finder?_eq_none_iff {c : SizeClass} {x y : Nat} : finder? c x y = none ↔
    (x % (c.rw + 2) ≠ 0 ∧ x % (c.rw + 2) ≠ c.rw + 1) ∧ y % (c.rh + 2) ≠ 0 ∧ y % (c.rh + 2) ≠ c.rh + 1 := by
  unfold finder?
  dsimp only
  split_ifs <;> simp_all

/-- Different mapping-matrix cells stand for different modules. -/
theorem gridKey_module_inj {c : SizeClass} (hc : c ∈ sizeRom) {r k r' k' : Nat} (hk : k < c.ncol) (hk' : k' < c.ncol)
    (h : gridKey (moduleX c k) (moduleY c r) = gridKey (moduleX c k') (moduleY c r')) : r = r' ∧ k = k' := by
  obtain ⟨hw, -, hncol, -⟩ := sizeRom_regions c hc
  obtain ⟨-, -, hw256⟩ := sizeRom_regionSize c hc
  have hlt : ∀ {j}, j < c.ncol → moduleX c j < 256 := fun {j} hj =>
    (hw ▸ gap_lt (hncol ▸ hj) : moduleX c j < c.w).trans hw256
  obtain ⟨hx, hy⟩ := gridKey_inj (hlt hk) (hlt hk') h
  exact ⟨gap_inj hy, gap_inj hx⟩

theorem cellKey_inj {c : SizeClass} (hc : c ∈ sizeRom) {a b : MapCell} (ha : inMatrix c a.1 a.2 = true)
    (hb : inMatrix c b.1 b.2 = true) (h : cellKey c a = cellKey c b) : a = b := by
  rw [inMatrix_iff] at ha hb
  obtain ⟨hr, hk⟩ := gridKey_module_inj hc (by omega) (by omega) h
  exact Prod.ext_iff.2 (by omega)

/-- Every data cell of the symbol is the module of a mapping-matrix cell. -/
theorem exists_cell_of_isDataKey {c : SizeClass} (hc : c ∈ sizeRom) {key : Nat} (h : isDataKey c key = true) :
    ∃ r k, r < c.nrow ∧ k < c.ncol ∧ key = gridKey (moduleX c k) (moduleY c r) := by
  obtain ⟨hw, hh, hncol, hnrow⟩ := sizeRom_regions c hc
  simp only [isDataKey, inSymbol, Bool.and_eq_true, decide_eq_true_iff, Option.isNone_iff_eq_none,
    finder?_eq_none_iff] at h
  obtain ⟨⟨hx, hy⟩, ⟨hx0, hx1⟩, hy0, hy1⟩ := h
  obtain ⟨k, hk, hxk⟩ := exists_gap (hw ▸ hx) hx0 hx1
  obtain ⟨r, hr, hyr⟩ := exists_gap (hh ▸ hy) hy0 hy1
  refine ⟨r, k, hnrow ▸ hr, hncol ▸ hk, ?_⟩
  rw [moduleX, moduleY, ← hxk, ← hyr, gridKey, Nat.div_add_mod]

/-! ### The finder (R151, R153) -/

theorem sizeRom_even : ∀ c ∈ sizeRom, c.rw % 2 = 0 ∧ c.rh % 2 = 0 := by decide

/-- Where two cases of the finder function meet they give the same value, because regions have even sides. -/
theorem finderCase_iff {c : SizeClass} (hc : c ∈ sizeRom) {x y : Nat} {b : Bool} :
    FinderCase c x y b ↔ finder? c x y = some b := by
  obtain ⟨hrw, hrh⟩ := sizeRom_even c hc
  have hx : x % (c.rw + 2) % 2 = x % 2 := Nat.mod_mod_of_dvd _ (Nat.dvd_of_mod_eq_zero (by omega))
  have hy : y % (c.rh + 2) % 2 = y % 2 := Nat.mod_mod_of_dvd _ (Nat.dvd_of_mod_eq_zero (by omega))
  unfold FinderCase finder?
  dsimp only
  cases b <;> split_ifs <;> simp <;> omega

theorem mem_finderWrites {c : SizeClass} {cell : Host.Cell} : cell ∈ finderWrites c ↔
    ∃ x y b, x < c.w ∧ y < c.h ∧ finder? c x y = some b ∧ cell = (gridKey x y, bitByte b) := by
  simp only [finderWrites, List.mem_flatMap, List.mem_filterMap, List.mem_range, Option.map_eq_some_iff]
  constructor
  · rintro ⟨y, hy, x, hx, b, hb, rfl⟩; exact ⟨x, y, b, hx, hy, hb, rfl⟩
  · rintro ⟨x, y, b, hx, hy, hb, rfl⟩; exact ⟨y, hy, x, hx, b, hb, rfl⟩

end Sys2Proof.Machine
end

section
/-! PROOFS, the placement engine: the control walk of every class, run once (R167, R173). Most codewords are placed with
the nominal layout inside the matrix on cells that are all free: `fastStep` places such a codeword in one operation on
MASK and leaves every other micro-step to the model, so that the kernel can run the walks of all 30 classes. -/

namespace Sys2Proof.Machine

open Claims

/-! ### A placement inside the matrix in one operation -/

/-- The bits of MASK of the nominal layout whose first cell is (0, 0). -/
def nominalBits : Nat := nominalOffsets.foldr (fun o bits => 2 ^ maskIndex (o.1 + 2) (o.2 + 2) ||| bits) 0

/-- The walk with the nominal layout placed at the cursor (r + 2, k + 2). -/
def Walk.placedInside (r k : Nat) (m : MaskBits) (w : Walk) : Walk :=
  { w with
    mask := some (BitVec.ofNat _ (m.toNat ||| nominalBits <<< (132 * r + k)))
    lastLayout := some .nominal
    lastRow := w.row
    lastCol := w.col
    chr := w.chr + 1 }

/-- A micro-step, with the common case in one operation. -/
def Walk.fastStep (c : SizeClass) (w : Walk) : Option Walk :=
  match w.phase == .up || w.phase == .down, w.row, w.col, w.mask with
  | true, .ofNat (r + 2), .ofNat (k + 2), some m =>
    if (Nat.blt (r + 2) c.nrow && Nat.blt (k + 2) c.ncol && Nat.blt w.chr c.n &&
        Nat.beq (m.toNat >>> (132 * r + k) &&& nominalBits) 0) = true
    then some ((w.placedInside r k m).advance c) else w.microStep c
  | _, _, _, _ => w.microStep c

theorem testBit_nominalBits {j : Nat} : nominalBits.testBit j = true ↔
    ∃ o ∈ nominalOffsets, maskIndex (o.1 + 2) (o.2 + 2) = j := by
  unfold nominalBits
  induction nominalOffsets with
  | nil => simp
  | cons o os ih =>
    rw [List.foldr_cons, Nat.testBit_or, Bool.or_eq_true, ih, Nat.testBit_two_pow, decide_eq_true_iff,
      List.exists_mem_cons_iff]

theorem nominalOffsets_bounds : ∀ o ∈ nominalOffsets, (-2 ≤ o.1 ∧ o.1 ≤ 0) ∧ -2 ≤ o.2 ∧ o.2 ≤ 0 := by decide

/-- The wrap moves no cell of a nominal layout whose cursor stands at least two cells inside. -/
theorem layoutCells_inside (c : SizeClass) (r k : Nat) : layoutCells c .nominal (r + 2 : Nat) (k + 2 : Nat) =
    nominalOffsets.map fun o => ((r : Int) + (o.1 + 2), (k : Int) + (o.2 + 2)) := by
  refine List.map_congr_left fun o ho => ?_
  have hpos := nominalOffsets_bounds o ho
  rw [wrapCell, if_neg (show ¬ ((r + 2 : Nat) : Int) + o.1 < 0 by omega)]
  dsimp only
  rw [if_neg (by omega)]
  exact Prod.ext_iff.2 (by dsimp only; omega)

theorem maskIndex_inside {r k : Nat} {o : MapCell} (ho : o ∈ nominalOffsets) :
    maskIndex (r + (o.1 + 2)) (k + (o.2 + 2)) = 132 * r + k + maskIndex (o.1 + 2) (o.2 + 2) := by
  have := nominalOffsets_bounds o ho
  simp only [maskIndex, Config.mapDim]
  omega

/-- Free cells inside the matrix are assigned by one operation on MASK. -/
theorem assignCells_inside {c : SizeClass} (hc : c ∈ sizeRom) {r k : Nat} {m : MaskBits} (hr : r + 2 < c.nrow)
    (hk : k + 2 < c.ncol) (hfree : m.toNat >>> (132 * r + k) &&& nominalBits = 0) :
    assignCells c m (layoutCells c .nominal (r + 2 : Nat) (k + 2 : Nat)) =
      some (BitVec.ofNat _ (m.toNat ||| nominalBits <<< (132 * r + k))) := by
  have hdiff : (layoutCells c .nominal (r + 2 : Nat) (k + 2 : Nat)).Nodup := by
    rw [layoutCells_inside]
    refine List.Nodup.map (fun a b hab => ?_) (by decide)
    rw [Prod.ext_iff] at hab ⊢
    dsimp only at hab
    omega
  have hall : ∀ cell ∈ layoutCells c .nominal (r + 2 : Nat) (k + 2 : Nat),
      inMatrix c cell.1 cell.2 = true ∧ maskBit m cell.1 cell.2 = false := by
    rw [layoutCells_inside]
    refine List.forall_mem_map.2 fun o ho => ⟨inMatrix_iff.2 ?_, ?_⟩
    · have := nominalOffsets_bounds o ho
      dsimp only
      omega
    · have hbit := congrArg (Nat.testBit · (maskIndex (o.1 + 2) (o.2 + 2))) hfree
      rw [maskBit, maskIndex_inside ho]
      simpa [BitVec.getLsbD, testBit_nominalBits.2 ⟨o, ho, rfl⟩] using hbit
  obtain ⟨m', hm'⟩ := (assignCells_isSome_iff hc).2 ⟨hdiff, hall⟩
  rw [hm', Option.some.injEq]
  refine BitVec.eq_of_getLsbD_eq fun i _ => Bool.eq_iff_iff.2 ?_
  rw [getLsbD_assignCells hm', BitVec.ofNat_or, BitVec.ofNat_toNat, BitVec.setWidth_eq, BitVec.getLsbD_or,
    BitVec.getLsbD_ofNat, Bool.or_eq_true, Bool.and_eq_true, decide_eq_true_iff, Nat.testBit_shiftLeft, Bool.and_eq_true,
    decide_eq_true_iff, testBit_nominalBits, layoutCells_inside]
  simp only [List.mem_map, exists_exists_and_eq_and]
  refine or_congr_right (and_congr_right fun _ => ⟨?_, ?_⟩)
  · rintro ⟨o, ho, hoi⟩
    rw [maskIndex_inside ho] at hoi
    exact ⟨by omega, o, ho, by omega⟩
  · rintro ⟨hle, o, ho, hoi⟩
    exact ⟨o, ho, by rw [maskIndex_inside ho]; omega⟩

theorem fastStep_eq_microStep {c : SizeClass} (hc : c ∈ sizeRom) (w : Walk) : w.fastStep c = w.microStep c := by
  unfold Walk.fastStep
  split
  · next r k m hphase hrow hcol hm =>
    split
    · next h =>
      simp only [Bool.and_eq_true, Nat.blt_eq, Nat.beq_eq] at h
      obtain ⟨⟨⟨hr, hk⟩, hchr⟩, hfree⟩ := h
      have hassign := assignCells_inside hc hr hk hfree
      have hcursor : maskBit m w.row w.col = false := by
        refine maskBit_of_assignCells hassign (w.row, w.col) ?_
        rw [layoutCells_inside, hrow, hcol]
        exact List.mem_map.2 ⟨(0, 0), by decide, rfl⟩
      refine (walk_microStep_eq_some.2 ⟨?_, .inr ⟨.nominal, _, ?_, place_eq_some.2 ⟨hchr, m, _, hm, ?_, rfl⟩, rfl⟩⟩).symm
      · intro hf; simp [hf] at hphase
      · have hin : inMatrix c w.row w.col = true := by
          rw [hrow, hcol, inMatrix_iff]; simp only [Int.ofNat_eq_natCast]; omega
        unfold Walk.select
        rw [hin, Walk.assigned, hm]
        simp only [hcursor]
        cases hp : w.phase <;> simp [hp] at hphase ⊢
      · rw [hrow, hcol]; exact hassign
    · rfl
  · rfl

/-! ### The walks of all classes -/

/-- A corner layout that fires, with the cursor and CHR (R173). -/
abbrev Firing := Layout × Int × Int × Nat

/-- A row of the table of R173: the corner layouts that fire, whether the fixup writes, the number of micro-steps, and
the END cursor. -/
abbrev WalkRow := List Firing × Bool × Nat × Int × Int

/-- The corner layout that a micro-step from `w` fires, if any. -/
def Walk.firing (c : SizeClass) (w : Walk) : Option Firing :=
  if w.phase = .corner then (cornerLayout c w.row w.col).map (·, w.row, w.col, w.chr) else none

/-- `n` micro-steps from `w`, with the corner layouts that fire put after `fires`. -/
def fastRun (c : SizeClass) : Nat → List Firing → Walk → Option (List Firing × Walk)
  | 0, fires, w => some (fires, w)
  | n + 1, fires, w =>
    match w.fastStep c with
    | none => none
    | some w' =>
      match w.firing c with
      | none => fastRun c n fires w'
      | some f => fastRun c n (fires ++ [f]) w'

/-- How many cells of a matrix row are assigned at END, from the left: all, but for the last two of the last two rows
when the corner is left to the fixup (R167, R171). -/
def filledTo (c : SizeClass) (fix : Bool) (r : Nat) : Nat :=
  if fix = true ∧ c.nrow ≤ r + 2 then c.ncol - 2 else c.ncol

/-- MASK at END shows exactly those cells as assigned. -/
def rowsFilled (c : SizeClass) (fix : Bool) (m : MaskBits) : Bool :=
  (List.range c.nrow).all fun r => (m.toNat >>> (132 * r)) % 2 ^ c.ncol == 2 ^ filledTo c fix r - 1

/-- The walk of the class, run, ends as its row of R173 says, with every codeword placed and MASK filled. -/
def endsAsListed (c : SizeClass) (row : WalkRow) : Bool :=
  match row with
  | (fires, fix, steps, er, ec) =>
    match fastRun c steps [] Walk.start with
    | none => false
    | some (fires', w) =>
      fires' == fires && w.phase == .finish && w.chr == c.n && w.row == er && w.col == ec &&
        fix == (c.nrow * c.ncol % 8 == 4) && w.mask.any (rowsFilled c fix)

/-- The walk of the class with this index ends as listed. -/
def walkIsListed (idx : Nat) : Bool :=
  match sizeRom[idx]?, walkTable[idx]? with
  | some c, some row => endsAsListed c row
  | _, _ => false

/-! R167 and R173 by running the walks, a few classes at a time. -/

theorem walkIsListed_small : (List.range' 0 15).all walkIsListed = true := by decide +kernel
theorem walkIsListed_medium : (List.range' 15 4).all walkIsListed = true := by decide +kernel
theorem walkIsListed_large : (List.range' 19 3).all walkIsListed = true := by decide +kernel
theorem walkIsListed_class22 : walkIsListed 22 = true := by decide +kernel
theorem walkIsListed_class23 : walkIsListed 23 = true := by decide +kernel
theorem walkIsListed_rect : (List.range' 24 6).all walkIsListed = true := by decide +kernel

theorem walkIsListed_of_lt {idx : Nat} (h : idx < 30) : walkIsListed idx = true := by
  have hrange {from_ len : Nat} (hall : (List.range' from_ len).all walkIsListed = true) (h1 : from_ ≤ idx)
      (h2 : idx < from_ + len) : walkIsListed idx = true := List.all_eq_true.1 hall idx (List.mem_range'_1.2 ⟨h1, h2⟩)
  rcases Nat.lt_or_ge idx 15 with h1 | h1
  · exact hrange walkIsListed_small (Nat.zero_le _) h1
  rcases Nat.lt_or_ge idx 19 with h2 | h2
  · exact hrange walkIsListed_medium h1 h2
  rcases Nat.lt_or_ge idx 22 with h3 | h3
  · exact hrange walkIsListed_large h2 h3
  rcases Nat.lt_or_ge idx 24 with h4 | h4
  · obtain rfl | rfl : idx = 22 ∨ idx = 23 := by omega
    exacts [walkIsListed_class22, walkIsListed_class23]
  · exact hrange walkIsListed_rect h4 h

theorem cornerFirings_succ {c : SizeClass} {n : Nat} {w : Walk} (h : walkAfter c n = some w) :
    cornerFirings c (n + 1) = cornerFirings c n ++ (w.firing c).toList := by
  rw [cornerFirings, h, Walk.firing]
  dsimp only
  split
  · cases cornerLayout c w.row w.col <;> simp
  · simp

/-- The run follows the walk from PL_START. -/
theorem walkAfter_of_fastRun {c : SizeClass} (hc : c ∈ sizeRom) {n k : Nat} {fires : List Firing} {w w' : Walk}
    (hw : walkAfter c k = some w) (h : fastRun c n (cornerFirings c k) w = some (fires, w')) :
    walkAfter c (k + n) = some w' ∧ cornerFirings c (k + n) = fires := by
  induction n generalizing k w with
  | zero => cases h; exact ⟨hw, rfl⟩
  | succ n ih =>
    rw [fastRun, fastStep_eq_microStep hc] at h
    split at h
    · cases h
    · next w1 hstep =>
      have hfires := cornerFirings_succ hw
      rw [← Nat.add_assoc, Nat.add_right_comm]
      refine ih (walkAfter_succ hw hstep) ?_
      rw [hfires]
      split at h <;> simp [*]

theorem maskBit_of_rowsFilled {c : SizeClass} {fix : Bool} {m : MaskBits} (h : rowsFilled c fix m = true) {r k : Nat}
    (hr : r < c.nrow) (hk : k < c.ncol) : maskBit m r k = true ↔ k < filledTo c fix r := by
  have hrow := beq_iff_eq.1 (List.all_eq_true.1 h r (List.mem_range.2 hr))
  have hbit := congrArg (Nat.testBit · k) hrow
  have hcell : m.toNat.testBit (132 * r + k) = decide (k < filledTo c fix r) := by
    simpa [Nat.testBit_mod_two_pow, hk, Nat.testBit_two_pow_sub_one] using hbit
  exact (Bool.eq_iff_iff.1 hcell).trans decide_eq_true_iff

/-- `n` micro-steps from PL_START lead the class to END at `w`, with MASK `m` (R167, R173). -/
structure EndsWith (c : SizeClass) (n : Nat) (w : Walk) (m : MaskBits) : Prop where
  reached : walkAfter c n = some w
  phase : w.phase = .finish
  chr : w.chr = c.n
  mask : w.mask = some m

/-- The walk of the class ends at `w` with MASK `m` as its row of R173 says, and R167 (c), (d) hold. -/
structure EndsAsListed (c : SizeClass) (row : WalkRow) (w : Walk) (m : MaskBits) : Prop where
  ends : EndsWith c row.2.2.1 w m
  cursor : w.row = row.2.2.2.1 ∧ w.col = row.2.2.2.2
  fires : cornerFirings c row.2.2.1 = row.1
  fix : row.2.1 = true ↔ c.nrow * c.ncol % 8 = 4
  filled : ∀ r k : Nat, r < c.nrow → k < c.ncol → (maskBit m r k = true ↔ k < filledTo c row.2.1 r)

theorem exists_endsAsListed {idx : Nat} {c : SizeClass} (hc : sizeRom[idx]? = some c) :
    ∃ row w m, walkTable[idx]? = some row ∧ EndsAsListed c row w m := by
  have h := walkIsListed_of_lt (List.getElem?_eq_some_iff.1 hc).1
  unfold walkIsListed at h
  split at h
  · next c' row hc' hrow =>
    cases hc.symm.trans hc'
    refine ⟨row, ?_⟩
    obtain ⟨fires, fix, steps, er, ec⟩ := row
    simp only [endsAsListed] at h
    split at h
    · cases h
    · next fires' w hrun =>
      obtain ⟨hw, hfires⟩ := walkAfter_of_fastRun (k := 0) (List.mem_of_getElem? hc) rfl hrun
      rw [Nat.zero_add] at hw hfires
      obtain ⟨m, hm⟩ := (walkAfter_active hw).2
      simp only [Bool.and_eq_true, beq_iff_eq, hm, Option.any_some] at h
      obtain ⟨⟨⟨⟨⟨⟨rfl, hphase⟩, hchr⟩, her⟩, hec⟩, hfix⟩, hfilled⟩ := h
      exact ⟨w, m, hrow, ⟨hw, hphase, hchr, hm⟩, ⟨her, hec⟩, hfires, by rw [hfix, beq_iff_eq],
        fun r k => maskBit_of_rowsFilled hfilled⟩
  · cases h

end Sys2Proof.Machine
end

section
/-! PROOFS, the placement engine: the control walk between PL_START and END (R164 to R167). Every micro-step before END
places at most one codeword, and the last micro-step places none. -/

namespace Sys2Proof.Machine

open Claims

/-! ### One micro-step of the control -/

section Control

variable {c : SizeClass} {w w' : Walk}

theorem microStep_of_select_none (hs : w.select c = none) (h : w.microStep c = some w') : w' = w.advance c := by
  obtain ⟨_, ⟨_, hw⟩ | ⟨t, _, ht, _⟩⟩ := walk_microStep_eq_some.1 h
  · exact hw
  · cases hs.symm.trans ht

/-- What a micro-step that places leaves in the walk registers (R163). -/
theorem microStep_of_select_some {t : Layout} (hs : w.select c = some t) (h : w.microStep c = some w') :
    w.chr < c.n ∧ w'.chr = w.chr + 1 ∧ w'.lastLayout = some t ∧ w'.lastRow = w.row ∧ w'.lastCol = w.col ∧
      ∃ m m', w.mask = some m ∧ w'.mask = some m' ∧ assignCells c m (layoutCells c t w.row w.col) = some m' := by
  obtain ⟨_, ⟨hn, _⟩ | ⟨t', w1, ht, hp, rfl⟩⟩ := walk_microStep_eq_some.1 h
  · cases hs.symm.trans hn
  · cases hs.symm.trans ht
    obtain ⟨hchr, m, m', hm, ha, rfl⟩ := place_eq_some.1 hp
    simpa [hchr, hm] using ha

theorem microStep_chr (h : w.microStep c = some w') :
    w.select c = none ∧ w'.chr = w.chr ∨ (∃ t, w.select c = some t) ∧ w'.chr = w.chr + 1 := by
  cases hs : w.select c with
  | none => rw [microStep_of_select_none hs h]; simp
  | some t => exact .inr ⟨⟨t, rfl⟩, (microStep_of_select_some hs h).2.1⟩

theorem microStep_phase (h : w.microStep c = some w') : w.phase ≠ .finish := (walk_microStep_eq_some.1 h).1

/-- A micro-step ends the walk only from a cursor to the right of the matrix, where nothing is placed. -/
theorem select_eq_none_of_finish (h : w.microStep c = some w') (hf : w'.phase = .finish) : w.select c = none := by
  have hadv : ∃ w1 : Walk, w1.phase = w.phase ∧ w1.row = w.row ∧ w1.col = w.col ∧ (w1.advance c).phase = .finish := by
    obtain ⟨_, ⟨_, rfl⟩ | ⟨t, w1, _, hp, rfl⟩⟩ := walk_microStep_eq_some.1 h
    · exact ⟨w, rfl, rfl, rfl, hf⟩
    · obtain ⟨_, m, m', _, _, rfl⟩ := place_eq_some.1 hp
      exact ⟨{ w with mask := some m', lastLayout := some t, lastRow := w.row, lastCol := w.col, chr := w.chr + 1 }, rfl,
        rfl, rfl, hf⟩
  obtain ⟨w1, hphase, hrow, hcol, hend⟩ := hadv
  unfold Walk.advance at hend
  rw [hphase, hrow, hcol] at hend
  unfold Walk.select
  cases hp : w.phase with
  | corner => simp [hp] at hend
  | finish => rfl
  | up => simp only [hp] at hend; split at hend <;> simp at hend
  | down =>
    have hout : inMatrix c w.row w.col = false := by
      rw [← Bool.not_eq_true, inMatrix_iff]
      simp only [hp] at hend
      split at hend
      · simp at hend
      · split at hend
        · simp at hend
        · omega
    simp [hout]

/-! ### Several micro-steps -/

theorem microSteps_succ {d : Nat} (h : w.microStep c = some w') : microSteps c (d + 1) w = microSteps c d w' := by
  rw [microSteps, h]

theorem microSteps_succ_eq_some {d : Nat} : microSteps c (d + 1) w = some w' ↔
    ∃ w1, w.microStep c = some w1 ∧ microSteps c d w1 = some w' := by
  rw [microSteps]
  cases w.microStep c <;> simp

theorem chr_le_of_microSteps {d : Nat} (h : microSteps c d w = some w') : w.chr ≤ w'.chr := by
  induction d generalizing w with
  | zero => cases h; exact le_rfl
  | succ d ih =>
    obtain ⟨w1, h1, h⟩ := microSteps_succ_eq_some.1 h
    have := ih h
    rcases microStep_chr h1 with ⟨-, h1⟩ | ⟨-, h1⟩ <;> omega

/-- The first of some micro-steps that leave CHR as it is leaves CHR as it is. -/
theorem chr_eq_of_microSteps {d : Nat} {w1 : Walk} (h1 : w.microStep c = some w1) (h : microSteps c d w1 = some w')
    (hchr : w'.chr = w.chr) : w1.chr = w.chr ∧ w.select c = none := by
  have := chr_le_of_microSteps h
  rcases microStep_chr h1 with ⟨hs, h1⟩ | ⟨-, h1⟩
  · exact ⟨h1, hs⟩
  · omega

/-- Micro-steps that leave CHR as it is place nothing. -/
theorem last_eq_of_microSteps {d : Nat} (h : microSteps c d w = some w') (hchr : w'.chr = w.chr) :
    w'.lastLayout = w.lastLayout ∧ w'.lastRow = w.lastRow ∧ w'.lastCol = w.lastCol := by
  induction d generalizing w with
  | zero => cases h; exact ⟨rfl, rfl, rfl⟩
  | succ d ih =>
    obtain ⟨w1, h1, h⟩ := microSteps_succ_eq_some.1 h
    obtain ⟨hchr1, hs⟩ := chr_eq_of_microSteps h1 h hchr
    have := ih h (hchr.trans hchr1.symm)
    rw [microStep_of_select_none hs h1] at this
    simpa using this

/-! ### The walk from PL_START to END -/

theorem walkAfter_succ_eq {n : Nat} (h : walkAfter c n = some w) : walkAfter c (n + 1) = w.microStep c := by
  rw [walkAfter, h]

theorem walkAfter_eq_none {n d : Nat} (h : walkAfter c n = none) : walkAfter c (n + d) = none := by
  induction d with
  | zero => exact h
  | succ d ih => rw [← Nat.add_assoc, walkAfter, ih]

theorem walkAfter_add {n : Nat} (d : Nat) (h : walkAfter c n = some w) : walkAfter c (n + d) = microSteps c d w := by
  induction d generalizing n w with
  | zero => exact h
  | succ d ih =>
    have hsucc := walkAfter_succ_eq h
    rw [← Nat.add_assoc, Nat.add_right_comm, microSteps]
    cases hm : w.microStep c with
    | none => exact walkAfter_eq_none (hsucc.trans hm)
    | some w1 => exact ih (hsucc.trans hm)

end Control

namespace EndsWith

variable {c : SizeClass} {steps n : Nat} {e w : Walk} {m : MaskBits} (he : EndsWith c steps e m)

include he

theorem le_steps (hw : walkAfter c n = some w) : n ≤ steps := by
  by_contra hn
  have hafter : walkAfter c (steps + 1) = none := by
    rw [walkAfter_succ_eq he.reached, Walk.microStep, if_pos he.phase]
  have hnone := walkAfter_eq_none (d := n - (steps + 1)) hafter
  rw [Nat.add_sub_cancel' (by omega), hw] at hnone
  cases hnone

theorem exists_walkAfter (hn : n ≤ steps) : ∃ w, walkAfter c n = some w := by
  by_contra hnone
  have hafter := walkAfter_eq_none (d := steps - n) (Option.eq_none_iff_forall_ne_some.2 (not_exists.1 hnone))
  rw [Nat.add_sub_cancel' hn, he.reached] at hafter
  cases hafter

/-- Before the last walk state a further micro-step exists (R167). -/
theorem exists_microStep (hw : walkAfter c n = some w) (hn : n < steps) : ∃ w', w.microStep c = some w' := by
  obtain ⟨w', hw'⟩ := he.exists_walkAfter hn
  exact ⟨w', (walkAfter_succ_eq hw).symm.trans hw'⟩

theorem eq_end (hw : walkAfter c steps = some w) : w = e := Option.some.inj (hw.symm.trans he.reached)

theorem phase_eq_finish_iff (hw : walkAfter c n = some w) : w.phase = .finish ↔ n = steps := by
  constructor
  · intro hf
    by_contra hne
    obtain ⟨w', hw'⟩ := he.exists_microStep hw (Nat.lt_of_le_of_ne (he.le_steps hw) hne)
    exact microStep_phase hw' hf
  · rintro rfl; rw [he.eq_end hw]; exact he.phase

theorem microSteps_to_end (hw : walkAfter c n = some w) : microSteps c (steps - n) w = some e := by
  rw [← walkAfter_add _ hw, Nat.add_sub_cancel' (he.le_steps hw), he.reached]

theorem chr_le (hw : walkAfter c n = some w) : w.chr ≤ c.n :=
  he.chr ▸ chr_le_of_microSteps (he.microSteps_to_end hw)

end EndsWith

/-- From `w` micro-steps that place nothing lead to `w1`, where a micro-step places a codeword with layout `tag` and
leaves `w2`. -/
structure NextPlacement (c : SizeClass) (w : Walk) (d : Nat) (tag : Layout) (w1 w2 : Walk) : Prop where
  quiet : microSteps c d w = some w1
  chr : w1.chr = w.chr
  select : w1.select c = some tag
  step : w1.microStep c = some w2

/-- While a codeword is left a later micro-step places it, and the walk has not ended then. -/
theorem EndsWith.exists_nextPlacement {c : SizeClass} {steps n : Nat} {e w : Walk} {m : MaskBits}
    (he : EndsWith c steps e m) (hw : walkAfter c n = some w) (hchr : w.chr < c.n) :
    ∃ d tag w1 w2, NextPlacement c w d tag w1 w2 ∧ n + d + 1 < steps := by
  obtain ⟨k, hk⟩ : ∃ k, steps - n = k := ⟨_, rfl⟩
  have hlt : n < steps := by
    refine Nat.lt_of_le_of_ne (he.le_steps hw) fun hn => ?_
    subst hn
    rw [he.eq_end hw, he.chr] at hchr
    exact lt_irrefl _ hchr
  induction k generalizing n w with
  | zero => omega
  | succ k ih =>
    obtain ⟨w', hw'⟩ := he.exists_microStep hw hlt
    have hnext := walkAfter_succ hw hw'
    have hend (hs : w.select c ≠ none) : n + 1 ≠ steps := fun hn =>
      hs (select_eq_none_of_finish hw' ((he.phase_eq_finish_iff hnext).2 hn))
    rcases microStep_chr hw' with ⟨hs, hsame⟩ | ⟨⟨tag, ht⟩, -⟩
    · have hne : n + 1 ≠ steps := fun hn => by
        rw [hn] at hnext
        rw [← hsame, he.eq_end hnext, he.chr] at hchr
        exact lt_irrefl _ hchr
      obtain ⟨d, tag, w1, w2, ⟨hq, hc1, hsel, hstep⟩, hd⟩ := ih hnext (by omega) (by omega) (by omega)
      exact ⟨d + 1, tag, w1, w2, ⟨(microSteps_succ hw').trans hq, hc1.trans hsame, hsel, hstep⟩, by omega⟩
    · have := hend (by simp [ht])
      exact ⟨0, tag, w, w', ⟨rfl, rfl, ht, hw'⟩, by omega⟩

end Sys2Proof.Machine
end

section
/-! PROOFS, the placement engine: PL_STEP (R169). Micro-steps that place nothing change the walk alone; then one places a
codeword; after the last codeword the walk is moved on to END. -/

namespace Sys2Proof.Machine

open Claims

/-- The state with codeword `v` placed by layout `tag` at LAST_ROW, LAST_COL of `w`, and with walk `w` (R163). -/
def State.withCodeword (c : SizeClass) (tag : Layout) (v : Byte) (w : Walk) (s : State) : State :=
  (s.setGrid (Memory.writeAll s.grid (placeWrites c (layoutCells c tag w.lastRow w.lastCol) v))).setWalk w

@[simp] theorem withCodeword_walk (c : SizeClass) (tag : Layout) (v : Byte) (w : Walk) (s : State) :
    (s.withCodeword c tag v w).walk = w := rfl

theorem withCodeword_of_last_eq {c : SizeClass} {tag : Layout} {v : Byte} {w w' : Walk} {s : State}
    (hrow : w.lastRow = w'.lastRow) (hcol : w.lastCol = w'.lastCol) :
    s.withCodeword c tag v w = (s.withCodeword c tag v w').setWalk w := by
  rw [State.withCodeword, State.withCodeword, hrow, hcol]
  rfl

section Steps

variable {c : SizeClass} {s : State} {w : Walk}

theorem microStep_quiet (h : s.walk.microStep c = some w) (hs : s.walk.select c = none) :
    microStep c s = .next (s.setWalk w) := by
  rcases microStep_cases c s with ⟨hn, _⟩ | ⟨w', hw, _, he⟩ | ⟨w', t, _, ht, _⟩ | ⟨w', t, v, _, ht, _⟩
  · cases h.symm.trans hn
  · cases h.symm.trans hw; exact he
  · cases hs.symm.trans ht
  · cases hs.symm.trans ht

theorem microStep_uninit {tag : Layout} (h : s.walk.microStep c = some w) (hs : s.walk.select c = some tag)
    (hv : s.cwAt s.walk.chr = none) : microStep c s = .fault .uninitRead := by
  rcases microStep_cases c s with ⟨hn, _⟩ | ⟨w', _, hn, _⟩ | ⟨w', t, _, _, _, he⟩ | ⟨w', t, v, _, _, hv', _⟩
  · cases h.symm.trans hn
  · cases hs.symm.trans hn
  · exact he
  · cases hv.symm.trans hv'

theorem microStep_places {tag : Layout} {v : Byte} (h : s.walk.microStep c = some w) (hs : s.walk.select c = some tag)
    (hv : s.cwAt s.walk.chr = some v) : microStep c s = .next (s.withCodeword c tag v w) := by
  obtain ⟨-, -, -, hrow, hcol, -⟩ := microStep_of_select_some hs h
  rcases microStep_cases c s with ⟨hn, _⟩ | ⟨w', _, hn, _⟩ | ⟨w', t, _, _, hv', _⟩ | ⟨w', t, v', hw, ht, hv', he⟩
  · cases h.symm.trans hn
  · cases hs.symm.trans hn
  · cases hv.symm.trans hv'
  · cases h.symm.trans hw; cases hs.symm.trans ht; cases hv.symm.trans hv'
    rw [he, State.withCodeword, hrow, hcol]

/-- Micro-steps that place nothing and do not stop a repetition may be taken off its front. -/
theorem repeatUntil_of_quiet {stop : Walk → Bool} {d : Nat} (b : Nat) (h : microSteps c d s.walk = some w)
    (hchr : w.chr = s.walk.chr) (hend : w.phase ≠ .finish)
    (hstop : ∀ w' : Walk, w'.chr = s.walk.chr → w'.phase ≠ .finish → stop w' = false) :
    repeatUntil c stop (d + b) s = repeatUntil c stop b (s.setWalk w) := by
  induction d generalizing s with
  | zero => cases h; rw [Nat.zero_add]; rfl
  | succ d ih =>
    obtain ⟨w1, h1, h⟩ := microSteps_succ_eq_some.1 h
    obtain ⟨hchr1, hs⟩ := chr_eq_of_microSteps h1 h hchr
    have hend1 : w1.phase ≠ .finish := by
      cases d with
      | zero => cases h; exact hend
      | succ d => obtain ⟨w2, h2, -⟩ := microSteps_succ_eq_some.1 h; exact microStep_phase h2
    rw [Nat.add_right_comm, repeatUntil, microStep_quiet h1 hs, andThen_next, setWalk_walk, hstop w1 hchr1 hend1,
      if_neg Bool.false_ne_true]
    exact ih (s := s.setWalk w1) h (hchr.trans hchr1.symm) fun w' hw' => hstop w' (hw'.trans hchr1)

/-- The repetition up to a placement, when `stop` holds neither before END nor at an unchanged CHR. -/
theorem repeatUntil_of_nextPlacement {stop : Walk → Bool} {d : Nat} {tag : Layout} {w1 w2 : Walk} (b : Nat)
    (hp : NextPlacement c s.walk d tag w1 w2)
    (hstop : ∀ w' : Walk, w'.chr = s.walk.chr → w'.phase ≠ .finish → stop w' = false) :
    repeatUntil c stop (d + (b + 1)) s = (s.cwAt s.walk.chr).elim (.fault .uninitRead) fun v =>
      if stop w2 then .next (s.withCodeword c tag v w2) else repeatUntil c stop b (s.withCodeword c tag v w2) := by
  rw [repeatUntil_of_quiet (b + 1) hp.quiet hp.chr (microStep_phase hp.step) hstop, repeatUntil]
  cases hv : s.cwAt s.walk.chr with
  | none => rw [microStep_uninit hp.step hp.select (by simpa [hp.chr] using hv), andThen_fault]; rfl
  | some v => rw [microStep_places hp.step hp.select (v := v) (by simpa [hp.chr] using hv), andThen_next]; rfl

end Steps

theorem NextPlacement.walkAfter {c : SizeClass} {w w1 w2 : Walk} {n d : Nat} {tag : Layout}
    (hp : NextPlacement c w d tag w1 w2) (hw : walkAfter c n = some w) : walkAfter c (n + d + 1) = some w2 :=
  walkAfter_succ ((walkAfter_add d hw).trans hp.quiet) hp.step

section PlStep

variable {c : SizeClass} {steps n : Nat} {e : Walk} {m : MaskBits} {s : State} (he : EndsWith c steps e m)
  (hw : walkAfter c n = some s.walk)

include he hw

/-- With every codeword placed the micro-steps to END move the cursor alone (R169). -/
theorem repeatUntil_atEnd_of_placed {b : Nat} (hn : n < steps) (hchr : s.walk.chr = c.n) (hb : steps - n ≤ b) :
    repeatUntil c Walk.atEnd b s = .next (s.setWalk e) := by
  obtain ⟨w1, hw1⟩ := he.exists_walkAfter (n := steps - 1) (by omega)
  obtain ⟨d, rfl⟩ : ∃ d, steps = n + d + 1 := ⟨steps - n - 1, by omega⟩
  rw [Nat.add_sub_cancel] at hw1
  have hquiet : microSteps c d s.walk = some w1 := (walkAfter_add d hw).symm.trans hw1
  have hstep : w1.microStep c = some e := (walkAfter_succ_eq hw1).symm.trans he.reached
  have hchr1 : w1.chr = s.walk.chr :=
    Nat.le_antisymm (hchr ▸ he.chr_le hw1) (chr_le_of_microSteps hquiet)
  obtain ⟨b, rfl⟩ : ∃ b', b = d + (b' + 1) := ⟨b - d - 1, by omega⟩
  rw [repeatUntil_of_quiet (b + 1) hquiet hchr1 (microStep_phase hstep) fun w' _ hf => by simpa [Walk.atEnd] using hf,
    repeatUntil, microStep_quiet hstep (select_eq_none_of_finish hstep he.phase), andThen_next]
  exact if_pos (atEnd_iff.2 he.phase)

omit hw in
/-- The walk that PL_STEP leaves after a placement: the finished one after the last codeword (R169). -/
def afterPlacement (c : SizeClass) (e w : Walk) : Walk := if w.chr = c.n then { e with wstate := .done } else w

section Placement

variable {d : Nat} {tag : Layout} {w1 w2 : Walk} (hp : NextPlacement c s.walk d tag w1 w2) (hn : n + d + 1 < steps)
  (hb : s.walkBound = steps)

include hp hn hb

omit he hw in
/-- The repetition of PL_STEP ends with the placement. -/
theorem repeatUntil_nextCodeword : repeatUntil c (fun w => w.chr == s.walk.chr + 1 || w.atEnd) s.walkBound s =
    (s.cwAt s.walk.chr).elim (.fault .uninitRead) fun v => .next (s.withCodeword c tag v w2) := by
  obtain ⟨-, hchr2, -⟩ := microStep_of_select_some hp.select hp.step
  obtain ⟨b, hbound⟩ : ∃ b, s.walkBound = d + (b + 1) := ⟨steps - d - 1, by omega⟩
  rw [hbound, repeatUntil_of_nextPlacement b hp fun w' hchr hf => by simp [hchr, Walk.atEnd, hf]]
  simp [hchr2, hp.chr]

omit he hw in
/-- PL_STEP on a walk whose next codeword holds no value. -/
theorem plStepBody_uninit (hv : s.cwAt s.walk.chr = none) : plStepBody c s = .fault .uninitRead := by
  rw [plStepBody, repeatUntil_nextCodeword hp hn hb, hv]
  rfl

/-- PL_STEP on a walk whose next codeword is `v`. -/
theorem plStepBody_places {v : Byte} (hv : s.cwAt s.walk.chr = some v) :
    plStepBody c s = .next (s.withCodeword c tag v (afterPlacement c e w2)) := by
  have hw2 := hp.walkAfter hw
  have h1 := repeatUntil_nextCodeword hp hn hb
  rw [hv, Option.elim_some] at h1
  rw [afterPlacement]
  split
  · next hlast =>
    obtain ⟨-, hrow, hcol⟩ := last_eq_of_microSteps (he.microSteps_to_end hw2) (he.chr.trans hlast.symm)
    have h2 := repeatUntil_atEnd_of_placed (s := s.withCodeword c tag v w2) he hw2 hn hlast
      (hb ▸ Nat.sub_le _ _ : steps - (n + d + 1) ≤ s.walkBound)
    have h3 := endWalk_eq_next (c := c) (s := (s.withCodeword c tag v w2).setWalk e).2 ⟨he.chr, rfl⟩
    refine plStepBody_eq_next.2 ⟨_, _, h1, by rwa [if_pos (by exact hlast)], ?_⟩
    rw [if_pos (by exact atEnd_iff.2 he.phase), h3, withCodeword_of_last_eq (w := { e with wstate := .done }) hrow hcol]
    rfl
  · next hlast =>
    refine plStepBody_eq_next.2 ⟨_, _, h1, by rw [if_neg (by exact hlast)], ?_⟩
    rw [if_neg]
    rw [withCodeword_walk, atEnd_iff, he.phase_eq_finish_iff hw2]
    omega

end Placement

end PlStep

/-! ### The walk of the selected class -/

theorem walkTable_steps : walkTable.map (·.2.2.1) = walkSteps := by decide

theorem exists_endsAsListed_of_sizeClass {s : State} {c : SizeClass} (hc : s.sizeClass? = some c) :
    ∃ row e m, walkTable[s.sizeSel.toNat]? = some row ∧ row.2.2.1 = s.walkBound ∧ EndsAsListed c row e m := by
  obtain ⟨row, e, m, hrow, hl⟩ := exists_endsAsListed hc
  refine ⟨row, e, m, hrow, ?_, hl⟩
  rw [State.walkBound, ← walkTable_steps, List.getD_eq_getElem?_getD, List.getElem?_map, hrow]
  rfl

theorem exists_endsWith {s : State} {c : SizeClass} (hc : s.sizeClass? = some c) :
    ∃ e m, EndsWith c s.walkBound e m := by
  obtain ⟨row, e, m, -, hsteps, hl⟩ := exists_endsAsListed_of_sizeClass hc
  exact ⟨e, m, hsteps ▸ hl.ends⟩

theorem maskBit_eq_false_iff {c : SizeClass} {row : WalkRow} {e : Walk} {m : MaskBits} (hl : EndsAsListed c row e m)
    {r k : Nat} (hr : r < c.nrow) (hk : k < c.ncol) :
    maskBit m r k = false ↔ row.2.1 = true ∧ c.nrow - 2 ≤ r ∧ c.ncol - 2 ≤ k := by
  rw [← Bool.not_eq_true, hl.filled r k hr hk, filledTo]
  cases row.2.1 with
  | false => simpa using hk
  | true => simp only [true_and]; split <;> omega

theorem maskBit_corner {c : SizeClass} (hc : c ∈ sizeRom) {row : WalkRow} {e : Walk} {m : MaskBits}
    (hl : EndsAsListed c row e m) : maskBit m (c.nrow - 1) (c.ncol - 1) = !row.2.1 := by
  obtain ⟨hrow, -, hcol, -⟩ := sizeRom_bounds c hc
  have hcell := maskBit_eq_false_iff hl (r := c.nrow - 1) (k := c.ncol - 1) (by omega) (by omega)
  rw [Nat.cast_sub (by omega), Nat.cast_sub (by omega)] at hcell
  have hfix : maskBit m (c.nrow - 1) (c.ncol - 1) = false ↔ row.2.1 = true :=
    hcell.trans (and_iff_left ⟨by omega, by omega⟩)
  rw [Bool.eq_iff_iff, ← not_iff_not, Bool.not_eq_true, hfix, Bool.not_eq_true', Bool.not_eq_false]

/-! ### The command -/

theorem exec_plStep_eq {s : State} {c : SizeClass} (hc : s.sizeClass? = some c) (hw : s.walk.wstate = .active) :
    exec .plStep s = andThen (plStepBody c s) succeed := by
  rw [exec, execPlStep, withClass_some hc, hw]

/-- What PL_STEP does on an active walk: the micro-steps up to the next placement, the placement, and after the last
codeword the way to END (R169). -/
theorem exec_plStep_of_active {s : State} {c : SizeClass} (hc : s.sizeClass? = some c) (ha : s.walk.ActiveOn c) :
    ∃ n d tag w1 w2 e m, EndsWith c s.walkBound e m ∧ walkAfter c n = some s.walk ∧
      NextPlacement c s.walk d tag w1 w2 ∧ n + d + 1 < s.walkBound ∧
      (s.cwAt s.walk.chr = none → exec .plStep s = .fault .uninitRead) ∧
      ∀ v, s.cwAt s.walk.chr = some v →
        exec .plStep s = .next (complete (s.withCodeword c tag v (afterPlacement c e w2))) := by
  obtain ⟨hactive, n, hw, -, hchr⟩ := ha
  obtain ⟨e, m, he⟩ := exists_endsWith hc
  obtain ⟨d, tag, w1, w2, hp, hn⟩ := he.exists_nextPlacement hw hchr
  refine ⟨n, d, tag, w1, w2, e, m, he, hw, hp, hn, fun hv => ?_, fun v hv => ?_⟩
  · rw [exec_plStep_eq hc hactive, plStepBody_uninit hp hn rfl hv, andThen_fault]
  · rw [exec_plStep_eq hc hactive, plStepBody_places he hw hp hn rfl hv]
    rfl

theorem activeOn_of_walkOk {s : State} {c : SizeClass} (hc : s.sizeClass? = some c) (hw : s.walk.wstate = .active)
    (h : s.WalkOk) : s.walk.ActiveOn c := by
  rcases walkOk_iff.1 h with hi | ⟨c', hc', ha | hd⟩
  · cases hw.symm.trans hi
  · cases hc.symm.trans hc'; exact ha
  · cases hw.symm.trans hd.wstate

/-- The walk after a placement keeps what the placement recorded. -/
theorem afterPlacement_record {c : SizeClass} {n steps d : Nat} {tag : Layout} {w w1 w2 e : Walk} {m : MaskBits}
    (he : EndsWith c steps e m) (hw : walkAfter c n = some w) (hp : NextPlacement c w d tag w1 w2) :
    let wf := afterPlacement c e w2
    wf.chr = w.chr + 1 ∧ wf.lastLayout = some tag ∧ wf.lastRow = w1.row ∧ wf.lastCol = w1.col ∧
      wf.wstate = if w.chr + 1 = c.n then .done else .active := by
  have hw2 := hp.walkAfter hw
  obtain ⟨-, hchr2, hlayout, hrow, hcol, -⟩ := microStep_of_select_some hp.select hp.step
  rw [hp.chr] at hchr2
  unfold afterPlacement
  rw [← hchr2]
  split
  · next hlast =>
    obtain ⟨hl', hr', hc'⟩ := last_eq_of_microSteps (he.microSteps_to_end hw2) (he.chr.trans hlast.symm)
    exact ⟨he.chr.trans hlast.symm, hl'.trans hlayout, hr'.trans hrow, hc'.trans hcol, rfl⟩
  · exact ⟨rfl, hlayout, hrow, hcol, (walkAfter_active hw2).1⟩

/-! ### The cells of a placement -/

theorem layoutCells_length (c : SizeClass) (t : Layout) (row col : Int) : (layoutCells c t row col).length = 8 := by
  cases t <;> rfl

theorem placeWrites_keys {c : SizeClass} {cells : List MapCell} (hlen : cells.length = 8) (v : Byte) :
    (placeWrites c cells v).map (·.1) = cells.map (cellKey c) := by
  rw [placeWrites, List.map_zipWith]
  refine List.ext_getElem (by simp [hlen]) fun i _ _ => by simp

/-- The cells of an assigned layout read the bits of the codeword, most significant first (R155). -/
theorem read_placeWrites {c : SizeClass} (hc : c ∈ sizeRom) {m m' : MaskBits} {cells : List MapCell}
    (h : assignCells c m cells = some m') (hlen : cells.length = 8) (g : Memory) (v : Byte) {j : Nat} {cell : MapCell}
    (hj : cells[j]? = some cell) :
    Memory.read (Memory.writeAll g (placeWrites c cells v)) (cellKey c cell) = some (bitByte (v.getLsbD (7 - j))) := by
  obtain ⟨hnd, hall⟩ := (assignCells_isSome_iff hc).1 ⟨m', h⟩
  refine Memory.read_writeAll_of_mem _ _ ?_ ?_
  · rw [placeWrites_keys hlen]
    exact hnd.map_on fun a ha b hb => cellKey_inj hc (hall a ha).1 (hall b hb).1
  · have hj8 : j < 8 := hlen ▸ (List.getElem?_eq_some_iff.1 hj).1
    refine List.mem_of_getElem? (i := j) ?_
    rw [placeWrites, List.getElem?_zipWith, hj, List.getElem?_range hj8]

theorem read_placeWrites_other {c : SizeClass} {cells : List MapCell} (hlen : cells.length = 8) (g : Memory) (v : Byte)
    {key : Nat} (h : ∀ cell ∈ cells, key ≠ cellKey c cell) :
    Memory.read (Memory.writeAll g (placeWrites c cells v)) key = Memory.read g key := by
  refine Memory.read_writeAll_of_not_mem _ _ _ fun w hw hkey => ?_
  have hmem : w.1 ∈ cells.map (cellKey c) := placeWrites_keys hlen v ▸ List.mem_map_of_mem hw
  obtain ⟨cell, hcell, hck⟩ := List.mem_map.1 hmem
  exact h cell hcell (hkey.symm.trans hck.symm)

end Sys2Proof.Machine
end


section
/-! PROOFS, the placement engine: PL_RUN (R170). Micro-steps read and write nothing but CW, GRID and the walk, so PL_RUN
and the stepped walk make the same moves; with every codeword held they reach END with a bit in every data cell. -/

namespace Sys2Proof.Machine

open Claims

/-! ### What micro-steps carry along -/

/-- `b` with the GRID, the walk and the FIXED of `s`: all that the walk writes. -/
def State.carry (b s : State) : State := { b with grid := s.grid, walk := s.walk, fixed := s.fixed }

@[simp] theorem carry_walk (b s : State) : (b.carry s).walk = s.walk := rfl

section Carry

variable {c : SizeClass} {b s t : State}

theorem microStep_unreachable (h : s.walk.microStep c = none) : microStep c s = .fault .unreachable := by
  rcases microStep_cases c s with ⟨_, he⟩ | ⟨w, hw, _⟩ | ⟨w, t, hw, _⟩ | ⟨w, t, v, hw, _⟩
  · exact he
  all_goals cases h.symm.trans hw

theorem microStep_carry (hcw : b.cw = s.cw) : microStep c (b.carry s) = mapNext b.carry (microStep c s) := by
  have hv : (b.carry s).cwAt s.walk.chr = s.cwAt s.walk.chr := congrArg (Memory.read · _) hcw
  cases hw : s.walk.microStep c with
  | none => rw [microStep_unreachable hw, microStep_unreachable (s := b.carry s) hw]; rfl
  | some w =>
    cases hs : s.walk.select c with
    | none => rw [microStep_quiet hw hs, microStep_quiet (s := b.carry s) hw hs]; rfl
    | some tag =>
      cases hc : s.cwAt s.walk.chr with
      | none => rw [microStep_uninit hw hs hc, microStep_uninit (s := b.carry s) hw hs (hv.trans hc)]; rfl
      | some v => rw [microStep_places hw hs hc, microStep_places (s := b.carry s) hw hs (hv.trans hc)]; rfl

/-- An operation that carries its own start along leaves the rest of it as it is. -/
theorem eq_carry_of_carries {r : Result} (hself : r = mapNext s.carry r) (h : r = .next t) : t = s.carry t := by
  rw [h] at hself
  exact Host.Outcome.next.inj hself

theorem eq_carry_of_microStep (h : microStep c s = .next t) : t = s.carry t :=
  eq_carry_of_carries (microStep_carry (b := s) rfl) h

theorem repeatUntil_carry {stop : Walk → Bool} {n : Nat} (hcw : b.cw = s.cw) :
    repeatUntil c stop n (b.carry s) = mapNext b.carry (repeatUntil c stop n s) := by
  induction n generalizing s with
  | zero => rfl
  | succ n ih =>
    rw [repeatUntil, repeatUntil, microStep_carry hcw]
    cases hm : microStep c s with
    | next u =>
      have hcw' : b.cw = u.cw := by rw [eq_carry_of_microStep hm]; exact hcw
      simp only [mapNext, andThen_next]
      rw [carry_walk, ih hcw']
      split <;> rfl
    | fault x | refused x => rfl

theorem eq_carry_of_repeatUntil {stop : Walk → Bool} {n : Nat} (h : repeatUntil c stop n s = .next t) :
    t = s.carry t :=
  eq_carry_of_carries (repeatUntil_carry (b := s) rfl) h

theorem plFixupBody_carry : plFixupBody c (b.carry s) = mapNext b.carry (plFixupBody c s) := by
  simp only [plFixupBody, carry_walk]
  cases s.walk.mask with
  | none => rfl
  | some m => dsimp only; split <;> rfl

theorem eq_carry_of_plFixupBody (h : plFixupBody c s = .next t) : t = s.carry t :=
  eq_carry_of_carries (plFixupBody_carry (b := s)) h

theorem eq_carry_of_plRunBody (h : plRunBody c s = .next t) : t = s.carry t := by
  obtain ⟨s1, s2, h1, h2, h3⟩ := plRunBody_eq_next.1 h
  obtain ⟨-, rfl⟩ := endWalk_eq_next.1 h2
  rw [eq_carry_of_plFixupBody h3, eq_carry_of_repeatUntil h1]
  rfl

end Carry

/-! ### PL_RUN and the stepped walk -/

/-- The state with its walk finished (R169, R170). -/
def State.endsWalk (s : State) : State := s.setWalk { s.walk with wstate := .done }

theorem exec_plFixup_of_done {s : State} {c : SizeClass} (hc : s.sizeClass? = some c) (hw : s.walk.wstate = .done) :
    exec .plFixup s = andThen (plFixupBody c s) succeed :=
  (withClass_some hc _).trans (if_neg (not_not.2 hw))

theorem exec_plFixup_carry {b s t : State} {c : SizeClass} (hc : b.sizeClass? = some c) (hw : s.walk.wstate = .done)
    (h : plFixupBody c s = .next t) : exec .plFixup (complete (b.carry s)) = .next (complete (b.carry t)) := by
  rw [exec_plFixup_of_done (s := complete (b.carry s)) hc hw, show complete (b.carry s) = (complete b).carry s from rfl,
    plFixupBody_carry, h]
  rfl

theorem exec_plRun_eq {s : State} {c : SizeClass} (hc : s.sizeClass? = some c) :
    exec .plRun s = andThen (plRunBody c s) succeed := withClass_some hc _

/-- Where the repetition of PL_RUN reaches END, a PL_STEP places the next codeword: it leaves a state from which the
repetition reaches the same end, or that end after the last codeword. -/
theorem exec_plStep_of_run {c : SizeClass} {n b : Nat} {u s1 : State} (hc : u.sizeClass? = some c)
    (hw : walkAfter c n = some u.walk) (hchr : u.walk.chr < c.n) (hrun : repeatUntil c Walk.atEnd b u = .next s1) :
    ∃ n' b' p, walkAfter c n' = some p.walk ∧ p.walk.chr = u.walk.chr + 1 ∧ p = u.carry p ∧
      repeatUntil c Walk.atEnd b' p = .next s1 ∧
      exec .plStep u = .next (complete (if p.walk.chr = c.n then u.carry s1.endsWalk else p)) := by
  have hactive : u.walk.ActiveOn c := by
    obtain ⟨e, m, he⟩ := exists_endsWith hc
    refine ⟨(walkAfter_active hw).1, n, hw, fun hf => ?_, hchr⟩
    obtain rfl := (he.phase_eq_finish_iff hw).1 hf
    rw [he.eq_end hw, he.chr] at hchr
    exact lt_irrefl _ hchr
  obtain ⟨n', d, tag, w1, w2, e, m, he, hw', hp, hn, -, hplaces⟩ := exec_plStep_of_active hc hactive
  have hw2 := hp.walkAfter hw'
  have hend2 : w2.atEnd = false := by
    rw [← Bool.not_eq_true, atEnd_iff, he.phase_eq_finish_iff hw2]; exact hn.ne
  obtain ⟨-, hchr2, -⟩ := microStep_of_select_some hp.select hp.step
  have hrest := repeatUntil_mono (m := d + (b + 1)) (by omega) hrun
  rw [repeatUntil_of_nextPlacement b hp fun w' _ hf => by simpa [Walk.atEnd] using hf] at hrest
  cases hv : u.cwAt u.walk.chr with
  | none => rw [hv] at hrest; cases hrest
  | some v =>
    rw [hv, Option.elim_some, hend2, if_neg Bool.false_ne_true] at hrest
    refine ⟨_, b, u.withCodeword c tag v w2, hw2, hchr2.trans (by rw [hp.chr]), rfl, hrest, ?_⟩
    rw [hplaces v hv, afterPlacement, withCodeword_walk]
    split
    · next hlast =>
      have hstop := repeatUntil_atEnd_of_placed (s := u.withCodeword c tag v w2) (b := b + u.walkBound) he hw2 hn hlast
        (by omega)
      have hsame := hstop.symm.trans (repeatUntil_mono (by omega) hrest)
      obtain rfl := Host.Outcome.next.inj hsame
      obtain ⟨-, hrow, hcol⟩ := last_eq_of_microSteps (he.microSteps_to_end hw2) (he.chr.trans hlast.symm)
      rw [withCodeword_of_last_eq (w := { e with wstate := .done }) hrow hcol]
      rfl
    · rfl

/-- Where the repetition of PL_RUN reaches END, PL_STEPs reach the same end, one for each codeword that is left. -/
theorem cleanRun_plSteps {c : SizeClass} {k n b : Nat} {u s1 : State} (hc : u.sizeClass? = some c)
    (hw : walkAfter c n = some u.walk) (hk : u.walk.chr + (k + 1) = c.n)
    (hrun : repeatUntil c Walk.atEnd b u = .next s1) :
    CleanRun (List.replicate (k + 1) .plStep) u (complete (u.carry s1.endsWalk)) := by
  induction k generalizing n b u s1 with
  | zero =>
    obtain ⟨n', b', p, -, hchr, -, -, hexec⟩ := exec_plStep_of_run hc hw (by omega) hrun
    rw [if_pos (by omega)] at hexec
    exact ⟨_, hexec, rfl, rfl⟩
  | succ k ih =>
    obtain ⟨n', b', p, hwp, hchr, hframe, hrest, hexec⟩ := exec_plStep_of_run hc hw (by omega) hrun
    rw [if_neg (by omega)] at hexec
    have hcarried : repeatUntil c Walk.atEnd b' (complete p) = .next ((complete p).carry s1) := by
      have hrun' := repeatUntil_carry (c := c) (stop := Walk.atEnd) (n := b') (b := complete p) (s := p) rfl
      rw [hrest] at hrun'
      exact hrun'
    have hcp : (complete p).sizeClass? = some c := by rw [hframe]; exact hc
    have hsteps := ih hcp hwp (by rw [← hk]; show p.walk.chr + _ = _; omega) hcarried
    have hsame : complete ((complete p).carry ((complete p).carry s1).endsWalk) = complete (u.carry s1.endsWalk) := by
      rw [hframe]; rfl
    exact ⟨_, hexec, rfl, hsame ▸ hsteps⟩

theorem cleanRun_append {is js : List Instr} {s t u : State} (h1 : CleanRun is s t) (h2 : CleanRun js t u) :
    CleanRun (is ++ js) s u := by
  induction is generalizing s with
  | nil => rw [show t = s from h1] at h2; exact h2
  | cons i is ih =>
    obtain ⟨s', hexec, herr, h1⟩ := h1
    exact ⟨s', hexec, herr, ih h1⟩

/-! ### PL_RUN reaches END (R167, R170) -/

/-- What a micro-step that exists can do: it goes on, and a codeword it has passed held a value; or it meets a codeword
without one. -/
theorem microStep_outcome {c : SizeClass} {s : State} {w : Walk} (h : s.walk.microStep c = some w) :
    (∃ u, microStep c s = .next u ∧ u.walk = w ∧ u.cw = s.cw ∧
      ∀ i, s.walk.chr ≤ i → i < w.chr → (s.cwAt i).isSome = true) ∨
    (microStep c s = .fault .uninitRead ∧ s.walk.chr < c.n ∧ s.cwAt s.walk.chr = none) := by
  cases hs : s.walk.select c with
  | none =>
    refine .inl ⟨_, microStep_quiet h hs, rfl, rfl, fun i h1 h2 => ?_⟩
    rw [microStep_of_select_none hs h, advance_chr] at h2
    omega
  | some tag =>
    obtain ⟨hlt, hchr, -⟩ := microStep_of_select_some hs h
    cases hv : s.cwAt s.walk.chr with
    | none => exact .inr ⟨microStep_uninit h hs hv, hlt, rfl⟩
    | some v =>
      refine .inl ⟨_, microStep_places h hs hv, rfl, rfl, fun i h1 h2 => ?_⟩
      rw [show i = s.walk.chr by omega, hv]
      rfl

/-- The repetition of PL_RUN, from a walk state with `k + 1` micro-steps to go, reaches END when every codeword that is
left holds a value, and otherwise meets one that holds none. -/
theorem repeatUntil_atEnd_outcome {c : SizeClass} {n k : Nat} {e : Walk} {m : MaskBits} {s : State}
    (he : EndsWith c (n + (k + 1)) e m) (hw : walkAfter c n = some s.walk) :
    (∃ s1, repeatUntil c Walk.atEnd (k + 1) s = .next s1 ∧ s1.walk = e ∧
      ∀ i, s.walk.chr ≤ i → i < c.n → (s.cwAt i).isSome = true) ∨
    (repeatUntil c Walk.atEnd (k + 1) s = .fault .uninitRead ∧ ∃ i, i < c.n ∧ s.cwAt i = none) := by
  induction k generalizing n s with
  | zero =>
    obtain ⟨w, hstep⟩ := he.exists_microStep hw (by omega)
    obtain rfl := he.eq_end (walkAfter_succ hw hstep)
    rcases microStep_outcome hstep with ⟨u, hu, huw, -, hheld⟩ | ⟨hf, hlt, hv⟩
    · refine .inl ⟨u, ?_, huw, he.chr ▸ hheld⟩
      rw [repeatUntil, hu, andThen_next, huw, if_pos (atEnd_iff.2 he.phase)]
    · exact .inr ⟨by rw [repeatUntil, hf, andThen_fault], _, hlt, hv⟩
  | succ k ih =>
    obtain ⟨w, hstep⟩ := he.exists_microStep hw (by omega)
    have hnext := walkAfter_succ hw hstep
    have hgo : w.atEnd = false := by
      rw [← Bool.not_eq_true, atEnd_iff, he.phase_eq_finish_iff hnext]; omega
    rcases microStep_outcome hstep with ⟨u, hu, huw, hcw, hheld⟩ | ⟨hf, hlt, hv⟩
    · have hrep : repeatUntil c Walk.atEnd (k + 1 + 1) s = repeatUntil c Walk.atEnd (k + 1) u := by
        rw [repeatUntil, hu, andThen_next, huw, hgo, if_neg Bool.false_ne_true]
      have hcwAt : u.cwAt = s.cwAt := by funext i; rw [State.cwAt, hcw, State.cwAt]
      have hrest := ih (n := n + 1) (s := u) (by rwa [Nat.add_right_comm, Nat.add_assoc] at he ⊢) (huw ▸ hnext)
      rw [hrep, ← hcwAt]
      refine hrest.imp (fun ⟨s1, h1, hs1, hheld1⟩ => ⟨s1, h1, hs1, fun i hi hin => ?_⟩) id
      rcases Nat.lt_or_ge i w.chr with hlt | hge
      · rw [hcwAt]; exact hheld i hi hlt
      · exact hheld1 i (huw ▸ hge) hin
    · exact .inr ⟨by rw [repeatUntil, hf, andThen_fault], _, hlt, hv⟩

/-- The repetition of PL_RUN reaches END exactly when every codeword holds a value (R170). -/
theorem repeatUntil_plRun {s : State} {c : SizeClass} {e : Walk} {m : MaskBits} (he : EndsWith c s.walkBound e m) :
    (∃ s1, repeatUntil c Walk.atEnd s.walkBound (plStartBody s) = .next s1 ∧ s1.walk = e ∧ CwHeld s c.n) ∨
    (repeatUntil c Walk.atEnd s.walkBound (plStartBody s) = .fault .uninitRead ∧ ¬ CwHeld s c.n) := by
  obtain ⟨k, hk⟩ : ∃ k, s.walkBound = k + 1 := Nat.exists_eq_succ_of_ne_zero fun h0 =>
    nomatch (he.phase_eq_finish_iff (n := 0) rfl).2 h0.symm
  rw [hk] at he ⊢
  refine (repeatUntil_atEnd_outcome (n := 0) (s := plStartBody s) (by rwa [Nat.zero_add]) rfl).imp ?_ ?_
  · rintro ⟨s1, hrun, hs1, hheld⟩
    exact ⟨s1, hrun, hs1, fun i => hheld i (Nat.zero_le i)⟩
  · rintro ⟨hrun, i, hi, hv⟩
    exact ⟨hrun, fun hheld => nomatch (hheld i hi).symm.trans (congrArg Option.isSome hv)⟩

/-! ### The cells that are filled -/

/-- The memory holds a bit at the key. -/
def HoldsBit (g : Memory) (key : Nat) : Prop := ∃ b, Memory.read g key = some (bitByte b)

theorem holdsBit_writeAll {g : Memory} {cells : List Host.Cell} {key : Nat}
    (hbits : ∀ w ∈ cells, ∃ b, w.2 = bitByte b) (h : (∃ w ∈ cells, w.1 = key) ∨ HoldsBit g key) :
    HoldsBit (Memory.writeAll g cells) key := by
  by_cases hw : ∃ w ∈ cells, w.1 = key
  · obtain ⟨w, hmem, -, hread⟩ := Memory.read_writeAll_of_written (m := g) hw
    obtain ⟨b, hb⟩ := hbits w hmem
    exact ⟨b, hb ▸ hread⟩
  · have hg := h.resolve_left hw
    push Not at hw
    rwa [HoldsBit, Memory.read_writeAll_of_not_mem _ _ _ hw]

theorem placeWrites_bits {c : SizeClass} {cells : List MapCell} {v : Byte} :
    ∀ w ∈ placeWrites c cells v, ∃ b, w.2 = bitByte b := by
  intro w hw
  rw [placeWrites, ← List.map_uncurry_zip_eq_zipWith, List.mem_map] at hw
  obtain ⟨p, -, rfl⟩ := hw
  exact ⟨_, rfl⟩

theorem fixupWrites_bits {c : SizeClass} : ∀ w ∈ fixupWrites c, ∃ b, w.2 = bitByte b :=
  List.forall_mem_map.2 fun _ _ => ⟨_, rfl⟩

/-- Every cell that MASK shows as assigned holds a bit in GRID (R163). -/
def State.AssignedFilled (c : SizeClass) (s : State) : Prop :=
  ∀ m, s.walk.mask = some m → ∀ cell : MapCell, inMatrix c cell.1 cell.2 = true →
    maskBit m cell.1 cell.2 = true → HoldsBit s.grid (cellKey c cell)

theorem assignedFilled_microStep {c : SizeClass} (hc : c ∈ sizeRom) {s t : State} (hs : s.AssignedFilled c)
    (h : microStep c s = .next t) : t.AssignedFilled c := by
  rcases microStep_cases c s with ⟨_, he⟩ | ⟨w, hw, hsel, he⟩ | ⟨w, tag, _, _, _, he⟩ | ⟨w, tag, v, hw, hsel, _, he⟩
  · cases he.symm.trans h
  · cases he.symm.trans h
    intro m hm
    rw [setWalk_walk, microStep_of_select_none hsel hw, advance_mask] at hm
    exact hs m hm
  · cases he.symm.trans h
  · cases he.symm.trans h
    obtain ⟨-, -, -, -, -, m, m', hm, hm', hassign⟩ := microStep_of_select_some hsel hw
    intro m1 hm1 cell hin hbit
    cases hm'.symm.trans hm1
    refine holdsBit_writeAll placeWrites_bits ?_
    rcases (maskBit_assignCells hc hassign hin).1 hbit with hold | hmem
    · exact .inr (hs m hm cell hin hold)
    · have hkey : cellKey c cell ∈ (placeWrites c (layoutCells c tag s.walk.row s.walk.col) v).map (·.1) := by
        rw [placeWrites_keys (layoutCells_length _ _ _ _)]
        exact List.mem_map_of_mem hmem
      exact .inl (List.mem_map.1 hkey)

theorem assignedFilled_repeatUntil {c : SizeClass} (hc : c ∈ sizeRom) {stop : Walk → Bool} {n : Nat} {s t : State}
    (hs : s.AssignedFilled c) (h : repeatUntil c stop n s = .next t) : t.AssignedFilled c :=
  (repeatUntil_invariant (State.AssignedFilled c) (fun _ _ => assignedFilled_microStep hc) hs h).1

theorem assignedFilled_start (c : SizeClass) (s : State) : (plStartBody s).AssignedFilled c := by
  intro m hm cell _ hbit
  obtain rfl := Option.some.inj hm
  simp [maskBit] at hbit

/-! ### The body of PL_RUN -/

/-- The fixup writes each cell of the last two rows and columns (R171). -/
theorem exists_fixupWrite {c : SizeClass} (hc : c ∈ sizeRom) {r k : Nat} (hr : c.nrow - 2 ≤ r ∧ r < c.nrow)
    (hk : c.ncol - 2 ≤ k ∧ k < c.ncol) : ∃ w ∈ fixupWrites c, w.1 = cellKey c ((r : Int), (k : Int)) := by
  obtain ⟨hrow, -, hcol, -⟩ := sizeRom_bounds c hc
  have hr' : (r : Int) = c.nrow - 1 ∨ (r : Int) = c.nrow - 2 := by omega
  have hk' : (k : Int) = c.ncol - 1 ∨ (k : Int) = c.ncol - 2 := by omega
  obtain ⟨b, hb⟩ : ∃ b, (((r : Int), (k : Int)), b) ∈ fixupCells c := by
    simp only [fixupCells, List.mem_cons, Prod.mk.injEq, List.not_mem_nil, or_false]
    rcases hr' with hr' | hr' <;> rcases hk' with hk' | hk'
    · exact ⟨true, .inl ⟨⟨hr', hk'⟩, rfl⟩⟩
    · exact ⟨false, .inr (.inr (.inl ⟨⟨hr', hk'⟩, rfl⟩))⟩
    · exact ⟨false, .inr (.inr (.inr ⟨⟨hr', hk'⟩, rfl⟩))⟩
    · exact ⟨true, .inr (.inl ⟨⟨hr', hk'⟩, rfl⟩)⟩
  exact ⟨_, List.mem_map_of_mem hb, rfl⟩

/-- At END a data cell holds a bit, or it is one that the fixup of the class writes (R167, R171). -/
theorem holdsBit_or_fixupWrite {c : SizeClass} {row : WalkRow} {e : Walk} {m : MaskBits} {s : State} {key : Nat}
    (hc : c ∈ sizeRom) (hl : EndsAsListed c row e m) (hfilled : s.AssignedFilled c) (hm : s.walk.mask = some m)
    (hkey : isDataKey c key = true) :
    HoldsBit s.grid key ∨ row.2.1 = true ∧ ∃ w ∈ fixupWrites c, w.1 = key := by
  obtain ⟨r, k, hr, hk, rfl⟩ := exists_cell_of_isDataKey hc hkey
  cases hbit : maskBit m r k with
  | true => exact .inl (hfilled m hm (r, k) (inMatrix_iff.2 (by dsimp only; omega)) hbit)
  | false =>
    obtain ⟨hfix, hr2, hk2⟩ := (maskBit_eq_false_iff hl hr hk).1 hbit
    exact .inr ⟨hfix, exists_fixupWrite hc ⟨hr2, hr⟩ ⟨hk2, hk⟩⟩

/-- With every codeword held PL_RUN comes to its fixup, on the finished walk of the class (R170). -/
theorem exists_plRunBody_eq {s : State} {c : SizeClass} {e : Walk} {m : MaskBits} (hc : c ∈ sizeRom)
    (he : EndsWith c s.walkBound e m) (hheld : CwHeld s c.n) :
    ∃ s1 : State, plRunBody c s = plFixupBody c s1.endsWalk ∧ s1.walk = e ∧ s1.AssignedFilled c := by
  obtain ⟨s1, hrun, hs1, -⟩ := (repeatUntil_plRun he).resolve_right fun h => h.2 hheld
  have hendWalk : endWalk c s1 = .next s1.endsWalk := endWalk_eq_next.2 ⟨by rw [hs1, he.chr], rfl⟩
  exact ⟨s1, by rw [plRunBody, hrun, andThen_next, hendWalk, andThen_next], hs1,
    assignedFilled_repeatUntil hc (assignedFilled_start c s) hrun⟩

/-- PL_RUN from a state whose codewords all hold a value: the walk is that of the class, and every data cell is filled
(R167, R170, R171). -/
theorem plRunBody_of_held {s : State} {c : SizeClass} {row : WalkRow} {e : Walk} {m : MaskBits} (hc : c ∈ sizeRom)
    (hl : EndsAsListed c row e m) (hbound : row.2.2.1 = s.walkBound) (hheld : CwHeld s c.n) :
    ∃ t mask, plRunBody c s = .next t ∧ t.fixed = row.2.1 ∧ t.walk = { e with wstate := .done, mask := mask } ∧
      ∀ key, isDataKey c key = true → HoldsBit t.grid key := by
  obtain ⟨s1, hbody, hs1, hfilled⟩ := exists_plRunBody_eq hc (hbound ▸ hl.ends) hheld
  have hmask : s1.walk.mask = some m := by rw [hs1, hl.ends.mask]
  have hcorner := maskBit_corner hc hl
  rw [hbody]
  rcases plFixupBody_cases c s1.endsWalk with ⟨hn, -⟩ | ⟨m', hm', ⟨hb, hfix⟩ | ⟨hb, hfix⟩⟩
  · exact nomatch hn.symm.trans hmask
  all_goals cases hmask.symm.trans hm'
  · have hfalse : row.2.1 = false := by simpa [hb] using hcorner
    refine ⟨_, some m, hfix, hfalse.symm, by rw [← hl.ends.mask, ← hs1]; rfl, fun key hkey => ?_⟩
    refine (holdsBit_or_fixupWrite hc hl hfilled hmask hkey).resolve_right fun h => ?_
    exact nomatch hfalse.symm.trans h.1
  · have htrue : row.2.1 = true := by simpa [hb] using hcorner
    refine ⟨_, some (fixupMask c m), hfix, htrue.symm, by rw [← hs1]; rfl, fun key hkey => ?_⟩
    exact holdsBit_writeAll fixupWrites_bits ((holdsBit_or_fixupWrite hc hl hfilled hmask hkey).symm.imp_left (·.2))

end Sys2Proof.Machine
end

section
/-! PROOFS, the placement engine: the phases of a micro-step (R164 to R166) and PL_FIXUP (R171, R172). -/

namespace Sys2Proof.Machine

open Claims

/-! ### The phases -/

section Phases

variable {c : SizeClass} {w : Walk} {m : MaskBits}

theorem microStep_of_none (hf : w.phase ≠ .finish) (hs : w.select c = none) :
    w.microStep c = some (w.advance c) :=
  walk_microStep_eq_some.2 ⟨hf, .inl ⟨hs, rfl⟩⟩

/-- A micro-step that places a layout, with the move spelled out for walks of its phase. -/
theorem microStep_of_some {t : Layout} {f : Walk → Walk} (hf : w.phase ≠ .finish) (hs : w.select c = some t)
    (hadv : ∀ w' : Walk, w'.phase = w.phase → w'.advance c = f w') : w.microStep c = (w.place c t).map f := by
  rw [Walk.microStep, if_neg hf, hs]
  refine Option.map_congr fun w' hw' => hadv w' ?_
  obtain ⟨_, m, m', _, _, rfl⟩ := place_eq_some.1 hw'
  rfl

theorem advance_corner (h : w.phase = .corner) : w.advance c = { w with phase := .up } := by rw [Walk.advance, h]

theorem advance_up (h : w.phase = .up) : w.advance c = movedUp c w := by
  rw [Walk.advance, h, movedUp]
  dsimp only
  rw [show w.row - 2 + 1 = w.row - 1 by omega, show w.col + 2 + 3 = w.col + 5 by omega, ← h]

theorem advance_down (h : w.phase = .down) : w.advance c = movedDown c w := by
  rw [Walk.advance, h, movedDown]
  dsimp only
  rw [show w.row + 2 + 3 = w.row + 5 by omega, show w.col - 2 + 1 = w.col - 1 by omega, ← h]
  refine if_congr Iff.rfl rfl ?_
  split <;> rfl

theorem select_corner (h : w.phase = .corner) : w.select c = cornerLayout c w.row w.col := by rw [Walk.select, h]

theorem cursorFree_iff (hm : w.mask = some m) :
    CursorFree c m w ↔ (inMatrix c w.row w.col && !w.assigned w.row w.col) = true := by
  rw [Bool.and_eq_true, inMatrix_iff, Walk.assigned, hm, Bool.not_eq_true', CursorFree]
  tauto

/-- Up and down the walk a nominal layout is placed exactly when the cursor cell is free. -/
theorem select_sweep (h : w.phase = .up ∨ w.phase = .down) (hm : w.mask = some m) :
    (CursorFree c m w → w.select c = some .nominal) ∧ (¬ CursorFree c m w → w.select c = none) := by
  have hsel : w.select c =
      if (inMatrix c w.row w.col && !w.assigned w.row w.col) = true then some .nominal else none := by
    rcases h with h | h <;> rw [Walk.select, h]
  rw [cursorFree_iff hm, hsel]
  exact ⟨fun hn => if_pos hn, fun hn => if_neg hn⟩

end Phases

/-! ### The micro-steps of PL_STEP -/

theorem chr_mono {c : SizeClass} {i j : Nat} {a b : Walk} (ha : walkAfter c i = some a) (hb : walkAfter c j = some b)
    (hij : i ≤ j) : a.chr ≤ b.chr := by
  refine chr_le_of_microSteps (c := c) (d := j - i) ?_
  rw [← walkAfter_add _ ha, Nat.add_sub_cancel' hij, hb]

section NextCodeword

variable {c : SizeClass} {n steps d : Nat} {tag : Layout} {w w1 w2 e : Walk} {m : MaskBits} (he : EndsWith c steps e m)
  (hw : walkAfter c n = some w) (hp : NextPlacement c w d tag w1 w2)

include he hw hp

/-- Before END, CHR is unchanged up to the next placement and lies between the placed codewords and N after it. -/
theorem exists_microSteps_chr {j : Nat} (hj : n + j < steps) : ∃ w', microSteps c j w = some w' ∧ w'.phase ≠ .finish ∧
    (j ≤ d → w'.chr = w.chr) ∧ (d < j → w2.chr ≤ w'.chr ∧ w'.chr ≤ c.n) := by
  obtain ⟨w', hw'⟩ := he.exists_walkAfter hj.le
  have hmid := (walkAfter_add d hw).trans hp.quiet
  refine ⟨w', (walkAfter_add j hw).symm.trans hw', fun hf => hj.ne ((he.phase_eq_finish_iff hw').1 hf), fun hjd => ?_,
    fun hdj => ⟨chr_mono (hp.walkAfter hw) hw' (by omega), he.chr_le hw'⟩⟩
  exact Nat.le_antisymm (hp.chr ▸ chr_mono hw' hmid (by omega)) (chr_mono hw hw' (by omega))

/-- PL_STEP leaves the walk of the shortest run of micro-steps to CHR + 1, extended to END after the last codeword
(R169). -/
theorem exists_microSteps_afterPlacement (hn : n + d + 1 < steps) :
    ∃ k w', 0 < k ∧ microSteps c k w = some w' ∧ w'.chr = w.chr + 1 ∧ (w'.chr = c.n → w'.phase = .finish) ∧
      afterPlacement c e w2 = { w' with wstate := if w'.phase = .finish then .done else .active } ∧
      ∀ j, 0 < j → j < k → ∃ w'', microSteps c j w = some w'' ∧ w''.phase ≠ .finish ∧
        (w''.chr = w.chr ∨ w''.chr = c.n) := by
  have hw2 := hp.walkAfter hw
  have hchr2 : w2.chr = w.chr + 1 := by rw [(microStep_of_select_some hp.select hp.step).2.1, hp.chr]
  rw [afterPlacement]
  split
  · next hlast =>
    refine ⟨steps - n, e, by omega, he.microSteps_to_end hw, by rw [he.chr, ← hlast, hchr2], fun _ => he.phase,
      by rw [if_pos he.phase], fun j _ hj => ?_⟩
    obtain ⟨w'', hj, hf, hbefore, hafter⟩ := exists_microSteps_chr he hw hp (j := j) (by omega)
    exact ⟨w'', hj, hf, (Nat.lt_or_ge d j).symm.imp hbefore fun h => by have := hafter h; omega⟩
  · next hlast =>
    have hgo : w2.phase ≠ .finish := fun hf => hn.ne ((he.phase_eq_finish_iff hw2).1 hf)
    refine ⟨d + 1, w2, by omega, (walkAfter_add (d + 1) hw).symm.trans hw2, hchr2, fun h => absurd h hlast, ?_,
      fun j _ hj => ?_⟩
    · rw [if_neg hgo, ← (walkAfter_active hw2).1]
    · obtain ⟨w'', hj', hf, hbefore, -⟩ := exists_microSteps_chr he hw hp (j := j) (by omega)
      exact ⟨w'', hj', hf, .inl (hbefore (by omega))⟩

end NextCodeword

/-! ### The fixup -/

theorem walkTable_fix : walkTable.map (·.2.1) = (List.range 30).map fun idx => decide (idx ∈ [1, 3, 5, 7]) := by decide

theorem fixupCells_eq {c : SizeClass} (hc : c ∈ sizeRom) : fixupCells c =
    [((((c.nrow - 1 : Nat) : Int), ((c.ncol - 1 : Nat) : Int)), true),
     ((((c.nrow - 2 : Nat) : Int), ((c.ncol - 2 : Nat) : Int)), true),
     ((((c.nrow - 1 : Nat) : Int), ((c.ncol - 2 : Nat) : Int)), false),
     ((((c.nrow - 2 : Nat) : Int), ((c.ncol - 1 : Nat) : Int)), false)] := by
  obtain ⟨hrow, -, hcol, -⟩ := sizeRom_bounds c hc
  rw [Nat.cast_sub (by omega), Nat.cast_sub (by omega), Nat.cast_sub hrow, Nat.cast_sub hcol]
  rfl

/-- The cells of the fixup read its pattern (R171). -/
theorem read_fixupWrites {c : SizeClass} (hc : c ∈ sizeRom) (g : Memory) {r k : Nat} {b : Bool}
    (h : (((r : Int), (k : Int)), b) ∈ fixupCells c) :
    Memory.read (Memory.writeAll g (fixupWrites c)) (gridKey (moduleX c k) (moduleY c r)) = some (bitByte b) := by
  refine Memory.read_writeAll_of_mem _ _ ?_ (List.mem_map.2 ⟨_, h, rfl⟩)
  rw [fixupWrites, List.map_map]
  have hcells : ((fixupCells c).map (·.1)).Nodup := by simp [fixupCells]
  refine List.Nodup.map_on (fun p hp q hq hpq => List.inj_on_of_nodup_map hcells hp hq ?_) hcells.of_map
  exact cellKey_inj hc (fixupCells_inMatrix hc p hp) (fixupCells_inMatrix hc q hq) hpq

theorem read_fixupWrites_other {c : SizeClass} (hc : c ∈ sizeRom) (g : Memory) {key : Nat}
    (h : ∀ r k, c.nrow - 2 ≤ r → r < c.nrow → c.ncol - 2 ≤ k → k < c.ncol →
      key ≠ gridKey (moduleX c k) (moduleY c r)) :
    Memory.read (Memory.writeAll g (fixupWrites c)) key = Memory.read g key := by
  refine Memory.read_writeAll_of_not_mem _ _ _ fun w hw hkey => ?_
  obtain ⟨hrow, -, hcol, -⟩ := sizeRom_bounds c hc
  obtain ⟨p, hp, rfl⟩ := List.mem_map.1 hw
  rw [fixupCells_eq hc] at hp
  simp only [List.mem_cons, List.not_mem_nil, or_false] at hp
  rcases hp with rfl | rfl | rfl | rfl
  · exact h (c.nrow - 1) (c.ncol - 1) (by omega) (by omega) (by omega) (by omega) hkey.symm
  · exact h (c.nrow - 2) (c.ncol - 2) (by omega) (by omega) (by omega) (by omega) hkey.symm
  · exact h (c.nrow - 1) (c.ncol - 2) (by omega) (by omega) (by omega) (by omega) hkey.symm
  · exact h (c.nrow - 2) (c.ncol - 1) (by omega) (by omega) (by omega) (by omega) hkey.symm

theorem maskBit_fixupMask {c : SizeClass} (hc : c ∈ sizeRom) (m : MaskBits) {r k : Nat} (hr : r < 132) (hk : k < 132) :
    maskBit (fixupMask c m) r k = true ↔
      maskBit m r k = true ∨ c.nrow - 2 ≤ r ∧ r < c.nrow ∧ c.ncol - 2 ≤ k ∧ k < c.ncol := by
  obtain ⟨hrow, hrow132, hcol, hcol132, -⟩ := sizeRom_bounds c hc
  simp only [fixupMask, fixupCells, List.foldl, maskBit, getLsbD_setMask, or_assoc]
  refine or_congr_right ?_
  simp only [maskIndex, Config.mapDim]
  omega

/-- PL_FIXUP on a finished walk whose corner bit is 1 (R172). -/
theorem exec_plFixup_of_corner_set {s : State} {c : SizeClass} {m : MaskBits} (hc : s.sizeClass? = some c)
    (hw : s.walk.wstate = .done) (hm : s.walk.mask = some m) (hb : maskBit m (c.nrow - 1) (c.ncol - 1) = true) :
    exec .plFixup s = .next (complete (s.setFixed false)) := by
  rw [exec_plFixup_of_done hc hw, plFixupBody, hm]
  dsimp only
  rw [if_pos hb]
  rfl

/-- PL_FIXUP on a finished walk whose corner bit is 0 (R172). -/
theorem exec_plFixup_of_corner_clear {s : State} {c : SizeClass} {m : MaskBits} (hc : s.sizeClass? = some c)
    (hw : s.walk.wstate = .done) (hm : s.walk.mask = some m) (hb : maskBit m (c.nrow - 1) (c.ncol - 1) = false) :
    exec .plFixup s = .next { s with
      grid := Memory.writeAll s.grid (fixupWrites c), walk := { s.walk with mask := some (fixupMask c m) },
      fixed := true, done := true, errCode := .none, pending := none } := by
  rw [exec_plFixup_of_done hc hw, plFixupBody, hm]
  dsimp only
  rw [if_neg (by rw [hb]; decide)]
  rfl

/-- A finished walk that PL_START began has corner bit 1 where the table lists no fixup for its class (R171, R173). -/
theorem corner_set_of_walkOk {s : State} {c : SizeClass} (hc : s.sizeClass? = some c) (hw : s.walk.wstate = .done)
    (h : s.WalkOk) (hidx : s.sizeSel.toNat ∉ [1, 3, 5, 7]) :
    ∃ m, s.walk.mask = some m ∧ maskBit m (c.nrow - 1) (c.ncol - 1) = true := by
  obtain ⟨row, e, m, hrow, -, hl⟩ := exists_endsAsListed_of_sizeClass hc
  have hmem := sizeClass_mem hc
  have hfix : row.2.1 = false := by
    have hlt : s.sizeSel.toNat < 30 := (List.getElem?_eq_some_iff.1 hrow).1
    have hlisted : row.2.1 = decide (s.sizeSel.toNat ∈ [1, 3, 5, 7]) := by
      simpa [hrow, hlt] using congrArg (·[s.sizeSel.toNat]?) walkTable_fix
    rw [hlisted, decide_eq_false hidx]
  have hbit : maskBit m (c.nrow - 1) (c.ncol - 1) = true := by rw [maskBit_corner hmem hl, hfix]; rfl
  obtain ⟨n, w, m0, hwalk, hphase, -, hm0, hdone⟩ : s.walk.DoneOn c := by
    rcases walkOk_iff.1 h with hi | ⟨c', hc', ha | hd⟩
    · cases hw.symm.trans hi
    · cases hw.symm.trans ha.1
    · cases hc.symm.trans hc'; exact hd
  obtain rfl := (hl.ends.phase_eq_finish_iff hwalk).1 hphase
  obtain rfl := hl.ends.eq_end hwalk
  cases hl.ends.mask.symm.trans hm0
  rcases hdone with hdone | hdone
  · exact ⟨m, by rw [hdone]; exact hm0, hbit⟩
  · obtain ⟨hr, hr132, hk, hk132, -⟩ := sizeRom_bounds c hmem
    have hset := (maskBit_fixupMask hmem m (r := c.nrow - 1) (k := c.ncol - 1) (by omega) (by omega)).2
    rw [Nat.cast_sub (by omega), Nat.cast_sub (by omega)] at hset
    exact ⟨fixupMask c m, by rw [hdone], hset (.inl hbit)⟩

end Sys2Proof.Machine
end

section

open Sys2Proof Sys2Proof.Machine Sys2Proof.Claims

/-- Settles O21: the cleared grid lists every GRID cell once, with 0, and no other key. -/
theorem plClearZeroesWholeGrid : Obligations.PlClearZeroesWholeGrid := by
  refine ⟨runsAs_noOperand fun w hz hop => by simp [decode, hz, hop], fun s => ⟨clearedGrid, rfl, fun x y hx hy => ?_,
    fun key hkey => ?_⟩⟩
  · refine Memory.read_of_mem wf_clearedGrid ?_
    simp only [clearedGrid, List.mem_flatMap, List.mem_map, List.mem_range]
    exact ⟨y, hy, x, hx, rfl⟩
  · by_contra hread
    obtain ⟨v, hv⟩ := Option.ne_none_iff_exists'.1 hread
    have hok := gridOk_clearedGrid
    simp only [gridOk, Bool.and_eq_true, List.all_eq_true] at hok
    exact nomatch hkey.symm.trans (hok.2 _ (Memory.mem_of_read hv)).1

/-- Settles O22: a finder cell is written with the value of whichever case of R151 holds, and no other key is written. -/
theorem plFinderDrawsFinder : Obligations.PlFinderDrawsFinder := by
  refine ⟨runsAs_noOperand fun w hz hop => by simp [decode, hz, hop], fun s hc => withClass_none hc _,
    fun s c hc => ⟨Memory.writeAll s.grid (finderWrites c), withClass_some hc _, fun x y b hx hy hb => ?_,
      fun x y hx hnot => Memory.read_writeAll_of_not_mem _ _ _ fun cell hcell hkey => hnot ?_⟩⟩
  all_goals
    have hmem := sizeClass_mem hc
    obtain ⟨-, -, hw256⟩ := sizeRom_regionSize c hmem
  · have hwritten : ∃ cell ∈ finderWrites c, cell.1 = gridKey x y :=
      ⟨_, mem_finderWrites.2 ⟨x, y, b, hx, hy, (finderCase_iff hmem).1 hb, rfl⟩, rfl⟩
    obtain ⟨cell, hcell, hkey, hread⟩ := Memory.read_writeAll_of_written (m := s.grid) hwritten
    obtain ⟨x', y', b', hx', hy', hb', rfl⟩ := mem_finderWrites.1 hcell
    obtain ⟨rfl, rfl⟩ := gridKey_inj (hx'.trans hw256) (hx.trans hw256) hkey
    obtain rfl := Option.some.inj (hb'.symm.trans ((finderCase_iff hmem).1 hb))
    exact hread
  · obtain ⟨x', y', b, hx', hy', hb, rfl⟩ := mem_finderWrites.1 hcell
    obtain ⟨rfl, rfl⟩ := gridKey_inj (hx'.trans hw256) hx hkey
    exact ⟨hx', hy', b, (finderCase_iff hmem).2 hb⟩

/-- Settles O23: the walk of PL_START is `Walk.start`. -/
theorem plStartBeginsWalk : Obligations.PlStartBeginsWalk :=
  ⟨runsAs_noOperand fun w hz hop => by simp [decode, hz, hop], fun _ hc => withClass_none hc _,
    fun _ _ hc => ⟨Walk.start, 0, withClass_some hc _, rfl, fun _ _ _ _ => BitVec.getLsbD_zero, rfl, rfl, rfl, rfl, rfl,
      rfl, rfl, rfl⟩⟩

/-- Settles O32: the gap translation skips the finder lines of each region and nothing else. -/
theorem gapTranslationIsBijection : Obligations.GapTranslationIsBijection := by
  refine fun c hc => ⟨fun r k hr hk => ⟨rfl, rfl, ?_⟩, fun r k r' k' _ hk _ hk' h => gridKey_module_inj hc hk hk' h,
    fun key h => exists_cell_of_isDataKey hc h⟩
  exact isDataKey_cellKey (cell := ((r : Int), (k : Int))) hc (inMatrix_iff.2 (by omega))

/-- Settles O24: the micro-steps up to the next placement write nothing but the walk, and the placement writes the bits of
CW[CHR] to the cells of its layout, which differ from each other. -/
theorem plStepPlacesOneCodeword : Obligations.PlStepPlacesOneCodeword := by
  refine ⟨runsAs_noOperand fun w hz hop => by simp [decode, hz, hop], fun s hc => withClass_none hc _,
    fun s c hc hw => exec_plStep_idle hc hw, fun s c hc hw => ?_, fun s c hc hw hok hv => ?_,
    fun s c v hc hw hok hv => ?_⟩
  · exact (withClass_some hc _).trans (by rw [hw]; rfl)
  · obtain ⟨n, d, tag, w1, w2, e, m, -, -, -, -, huninit, -⟩ :=
      exec_plStep_of_active hc (activeOn_of_walkOk hc hw hok)
    exact huninit hv
  · obtain ⟨n, d, tag, w1, w2, e, m, he, hwalk, hp, -, -, hplaces⟩ :=
      exec_plStep_of_active hc (activeOn_of_walkOk hc hw hok)
    obtain ⟨hchr, hlayout, hrow, hcol, hstate⟩ := afterPlacement_record he hwalk hp
    obtain ⟨-, -, -, -, -, m1, m2, -, -, hassign⟩ := microStep_of_select_some hp.select hp.step
    have hlen := layoutCells_length c tag w1.row w1.col
    refine ⟨_, tag, hplaces v hv, rfl, hchr, hlayout, fun j hj => ?_, fun key hkey => ?_, hstate⟩
    · obtain ⟨cell, hcell⟩ : ∃ cell, (layoutCells c tag w1.row w1.col)[j]? = some cell :=
        ⟨_, List.getElem?_eq_getElem (hlen ▸ hj)⟩
      refine ⟨cell, ?_, assignCells_inMatrix hassign cell (List.mem_of_getElem? hcell), ?_⟩
      · rw [← hcell, ← hrow, ← hcol]; rfl
      · rw [← read_placeWrites (sizeClass_mem hc) hassign hlen s.grid v hcell, ← hrow, ← hcol]; rfl
    · rw [← read_placeWrites_other (layoutCells_length c tag _ _) s.grid v hkey]; rfl

/-- Settles O25: with every codeword held the repetition reaches END, where the cells that MASK shows as assigned hold
their bits; the fixup fills the others. -/
theorem plRunPlacesWholeSymbol : Obligations.PlRunPlacesWholeSymbol := by
  refine ⟨runsAs_noOperand fun w hz hop => by simp [decode, hz, hop], fun s hc => withClass_none hc _,
    fun s c hc hnot => ?_, fun s c hc hheld => ?_⟩
  · obtain ⟨e, m, he⟩ := exists_endsWith hc
    obtain ⟨hrun, -⟩ := (repeatUntil_plRun he).resolve_left fun ⟨_, _, _, hheld⟩ => hnot hheld
    rw [exec_plRun_eq hc, plRunBody, hrun]
    rfl
  · obtain ⟨row, e, m, hrow, hbound, hl⟩ := exists_endsAsListed_of_sizeClass hc
    have hmem := sizeClass_mem hc
    obtain ⟨t, mask, hbody, hfixed, hwalk, hdata⟩ := plRunBody_of_held hmem hl hbound hheld
    have hkeeps := keepsTo_plRunBody (i := .plRun) hmem (placesCodewords (by simp)) rfl hbody
    have hframe := congrArg complete (eq_carry_of_plRunBody hbody)
    refine ⟨complete t, t.grid, row.1, row.2.1, row.2.2.1, row.2.2.2.1, row.2.2.2.2, ?_, hrow, ?_, ?_, ?_, ?_, ?_, ?_,
      hdata, fun key hkey => hkeeps.grid key (by simp [writesGrid, hkey])⟩
    · rw [exec_plRun_eq hc, hbody]; rfl
    · rw [← hfixed]; exact hframe
    all_goals rw [show (complete t).walk = _ from hwalk]
    · exact hl.ends.phase
    · exact hl.ends.chr
    · exact hl.cursor.1
    · exact hl.cursor.2

/-- Settles O26: by induction on the codewords that are left, each PL_STEP leaves a state from which the repetition of
PL_RUN reaches the same end. -/
theorem plRunEqualsSteppedWalk : Obligations.PlRunEqualsSteppedWalk := by
  intro s t c hc h
  rw [exec_plRun_eq hc] at h
  obtain ⟨t', hbody, rfl⟩ := andThen_succeed_eq_next h
  obtain ⟨s1, s2, h1, h2, h3⟩ := plRunBody_eq_next.1 hbody
  obtain ⟨-, rfl⟩ := endWalk_eq_next.1 h2
  obtain ⟨k, hk⟩ : ∃ k, c.n = k + 1 := by
    obtain ⟨-, -, -, -, -, hn, -⟩ := sizeRom_bounds c (sizeClass_mem hc)
    exact ⟨c.n - 1, by omega⟩
  have hstart : exec .plStart s = .next (complete (plStartBody s)) := withClass_some hc _
  have hrun := repeatUntil_carry (c := c) (stop := Walk.atEnd) (n := s.walkBound) (b := complete (plStartBody s))
    (s := plStartBody s) rfl
  rw [h1] at hrun
  have hsteps := cleanRun_plSteps (n := 0) (k := k) (u := complete (plStartBody s)) hc rfl
    (by rw [hk]; exact Nat.zero_add _) hrun
  have hfix := exec_plFixup_carry (b := s) (s := s1.endsWalk) hc rfl h3
  rw [← eq_carry_of_plRunBody hbody] at hfix
  rw [hk]
  exact ⟨_, hstart, rfl, cleanRun_append hsteps ⟨_, hfix, rfl, rfl⟩⟩

/-- Settles O27: by unfolding the layouts and the wrap; a placement is `assignCells` on the layout's cells. -/
theorem layoutsWrapAndPlacement : Obligations.LayoutsWrapAndPlacement := by
  refine ⟨fun c row col => ⟨rfl, rfl, rfl, rfl, rfl, ?_⟩, fun c r k => ?_, fun c t w w' hc hp => ?_,
    fun c t w m hm h => ?_⟩
  · simp only [cornerLayout]
    refine ⟨?_, ?_, ?_, ?_⟩ <;> split_ifs <;> simp <;> omega
  · refine ⟨fun hr hk => ?_, fun hr hk => ?_, fun hr hk => ?_, fun hr hk => ?_⟩
    · simp [wrapCell, hr.not_gt, hk.not_gt]
    · rw [wrapCell, if_pos hr]; rw [if_neg (by dsimp only; omega)]; exact Prod.ext_iff.2 (by dsimp only; omega)
    · simp [wrapCell, hr.not_gt, hk]; omega
    · rw [wrapCell, if_pos hr]; rw [if_pos (by dsimp only; omega)]; exact Prod.ext_iff.2 (by dsimp only; omega)
  · obtain ⟨-, m, m', hm, hassign, rfl⟩ := place_eq_some.1 hp
    refine ⟨rfl, rfl, rfl, rfl, rfl, rfl, rfl, rfl, m, m', hm, rfl, fun r k hr hk => ?_⟩
    obtain ⟨-, hrow, -, hcol, -⟩ := sizeRom_bounds c hc
    rw [maskBit, maskBit, getLsbD_assignCells hassign]
    refine or_congr_right ⟨?_, fun hmem => ⟨?_, _, hmem, rfl⟩⟩
    · rintro ⟨-, cell, hmem, hi⟩
      have hin := inMatrix_iff.1 (assignCells_inMatrix hassign cell hmem)
      obtain ⟨h1, h2⟩ := maskIndex_inj hin.1.1 (by omega) (by omega) (by omega) hi
      rwa [← h1, ← h2]
    · simp only [maskIndex, Config.mapDim]; omega
  · by_contra hne
    obtain ⟨w', hw'⟩ := Option.ne_none_iff_exists'.1 hne
    obtain ⟨hchr, m1, m', hm1, hassign, -⟩ := place_eq_some.1 hw'
    cases hm.symm.trans hm1
    rcases h with h | ⟨cell, hmem, hbit⟩
    · exact Nat.not_lt.2 h hchr
    · exact nomatch hbit.symm.trans (maskBit_of_assignCells hassign cell hmem)

/-- Settles O28: the phases by the cases of `Walk.select` and `Walk.advance`; the commands by the walk that their
repetitions of micro-steps follow. -/
theorem microStepsFollowPhases : Obligations.MicroStepsFollowPhases := by
  refine ⟨fun c w h => ⟨fun hs => ?_, fun t hs => ?_⟩, fun c w m h hm => ⟨fun hfree => ?_, fun hfree => ?_⟩,
    fun c w m h hm => ⟨fun hfree => ?_, fun hfree => ?_⟩, fun s t c hc hw hok h => ?_, fun s t c hc h => ?_⟩
  · rw [microStep_of_none (by simp [h]) ((select_corner h).trans hs), advance_corner h]
  · exact microStep_of_some (by simp [h]) ((select_corner h).trans hs) fun w' hw' => advance_corner (hw'.trans h)
  · rw [microStep_of_none (by simp [h]) ((select_sweep (.inl h) hm).2 hfree), advance_up h]
  · exact microStep_of_some (by simp [h]) ((select_sweep (.inl h) hm).1 hfree) fun w' hw' => advance_up (hw'.trans h)
  · rw [microStep_of_none (by simp [h]) ((select_sweep (.inr h) hm).2 hfree), advance_down h]
  · exact microStep_of_some (by simp [h]) ((select_sweep (.inr h) hm).1 hfree) fun w' hw' => advance_down (hw'.trans h)
  · obtain ⟨n, d, tag, w1, w2, e, m, he, hwalk, hp, hn, huninit, hplaces⟩ :=
      exec_plStep_of_active hc (activeOn_of_walkOk hc hw hok)
    cases hv : s.cwAt s.walk.chr with
    | none => cases h.symm.trans (huninit hv)
    | some v =>
      cases h.symm.trans (hplaces v hv)
      exact exists_microSteps_afterPlacement he hwalk hp hn
  · rw [exec_plRun_eq hc] at h
    obtain ⟨u, hbody, rfl⟩ := andThen_succeed_eq_next h
    obtain ⟨s1, s2, h1, h2, h3⟩ := plRunBody_eq_next.1 hbody
    obtain ⟨-, rfl⟩ := endWalk_eq_next.1 h2
    obtain ⟨⟨k, hk⟩, hend⟩ := OnWalk.repeatUntil (c := c) (s := plStartBody s) ⟨0, rfl⟩ h1
    have hsteps : microSteps c k Walk.start = some s1.walk := by
      rw [← walkAfter_add (n := 0) k rfl, Nat.zero_add, hk]
    rcases plFixupBody_cases c (s1.setWalk { s1.walk with wstate := .done }) with ⟨-, hf⟩ | ⟨m, hm, ⟨-, hf⟩ | ⟨-, hf⟩⟩
    all_goals cases h3.symm.trans hf
    · exact ⟨k, s1.walk, m, hsteps, atEnd_iff.1 hend, hm, .inl ⟨rfl, rfl⟩⟩
    · exact ⟨k, s1.walk, m, hsteps, atEnd_iff.1 hend, hm, .inr ⟨rfl, rfl⟩⟩

/-- Settles O29: the corner bit decides between the two branches of PL_FIXUP, and a walk that PL_START began leaves it 0
in the classes of the table only. -/
theorem plFixupWritesCornerPattern : Obligations.PlFixupWritesCornerPattern := by
  refine ⟨runsAs_noOperand fun w hz hop => by simp [decode, hz, hop], fun s hc => withClass_none hc _,
    fun s c hc hw => (withClass_some hc _).trans (if_pos hw), fun s c m => exec_plFixup_of_corner_set,
    fun s c m hc hw hm hb => ?_, fun s c hc hw hok h1 h3 h5 h7 => ?_⟩
  · have hmem := sizeClass_mem hc
    refine ⟨_, _, exec_plFixup_of_corner_clear hc hw hm hb, read_fixupWrites hmem _ (b := true) ?_,
      read_fixupWrites hmem _ (b := true) ?_, read_fixupWrites hmem _ (b := false) ?_,
      read_fixupWrites hmem _ (b := false) ?_, fun key => read_fixupWrites_other hmem _,
      fun r k => maskBit_fixupMask hmem m⟩
    all_goals rw [fixupCells_eq hmem]; simp
  · have hne {v : BitVec 5} (h : s.sizeSel ≠ v) : s.sizeSel.toNat ≠ v.toNat := mt BitVec.eq_of_toNat_eq h
    obtain ⟨m, hm, hb⟩ := corner_set_of_walkOk hc hw hok (by
      simpa using And.intro (hne h1) ⟨hne h3, hne h5, hne h7⟩)
    exact exec_plFixup_of_corner_set hc hw hm hb

/-- Settles O30: the control walks of the thirty classes are computed (`walkIsListed_of_lt`) and compared with the table. -/
theorem walkDataPerClass : Obligations.WalkDataPerClass := by
  intro idx c hc
  obtain ⟨row, e, m, hrow, hl⟩ := exists_endsAsListed hc
  refine ⟨row.1, row.2.1, row.2.2.1, row.2.2.2.1, row.2.2.2.2, e, m, hrow, hl.ends.reached, hl.ends.phase, hl.ends.chr,
    hl.cursor.1, hl.cursor.2, hl.ends.mask, maskBit_corner (List.mem_of_getElem? hc) hl, hl.fires, fun n hn => ?_⟩
  obtain ⟨w, hw⟩ := hl.ends.exists_walkAfter hn.le
  exact ⟨w, hw, fun hf => hn.ne ((hl.ends.phase_eq_finish_iff hw).1 hf)⟩

/-- Settles O31: the registers stay in range by an invariant of the walk; a further micro-step exists because the walk
goes on to END, where MASK is the computed one. -/
theorem walkPropertiesOfEveryClass : Obligations.WalkPropertiesOfEveryClass := by
  intro c hc n w hw
  obtain ⟨idx, hidx⟩ := List.mem_iff_getElem?.1 hc
  obtain ⟨row, e, m, -, hl⟩ := exists_endsAsListed hidx
  have hend := hl.ends.phase_eq_finish_iff hw
  have hrange := cursorRange_of_cursorOk (registersOk_walkAfter hc hw).1
  refine ⟨⟨hrange.1.1, hrange.1.2, hrange.2⟩, fun hf => ?_, fun hf => ?_⟩
  · obtain ⟨w', hw'⟩ := hl.ends.exists_microStep hw (Nat.lt_of_le_of_ne (hl.ends.le_steps hw) (mt hend.2 hf))
    exact ⟨w', hw', (microStep_chr hw').imp (·.2) (·.2)⟩
  · obtain rfl := hend.1 hf
    obtain rfl := hl.ends.eq_end hw
    exact ⟨hl.ends.chr, m, hl.ends.mask, fun r k hr hk => by
      rw [maskBit_eq_false_iff hl hr hk, hl.fix]⟩

end

section
/-! PROOFS, the composite command SYMBOL (spec/43_composite.md): what the walk reads of the codeword buffer, the buffer
that RS_ENC leaves, and SYMBOL as PL_RUN from a state that the class and the data determine (R200 to R202). -/

namespace Sys2Proof.Machine

open Claims

/-! ### What the walk reads -/

@[simp] theorem mapNext_next (g : State → State) (s : State) : mapNext g (.next s) = .next (g s) := rfl

section Walk

variable {c : SizeClass} {b s : State} {m : Memory}

/-- A micro-step reads only codewords below N: another buffer that reads the same there makes the same step. -/
theorem microStep_setCw (hm : ∀ i, i < c.n → Memory.read m i = s.cwAt i) :
    microStep c (s.setCw m) = mapNext (·.setCw m) (microStep c s) := by
  rcases microStep_cases c s with ⟨hw, he⟩ | ⟨w, hw, hs, he⟩ | ⟨w, tag, hw, hs, hv, he⟩ | ⟨w, tag, v, hw, hs, hv, he⟩
  · rw [he]
    exact microStep_unreachable (s := s.setCw m) hw
  · rw [he]
    exact microStep_quiet (s := s.setCw m) hw hs
  · obtain ⟨hlt, -⟩ := microStep_of_select_some hs hw
    rw [he]
    exact microStep_uninit (s := s.setCw m) hw hs ((hm _ hlt).trans hv)
  · obtain ⟨hlt, -⟩ := microStep_of_select_some hs hw
    rw [microStep_places hw hs hv]
    exact microStep_places (s := s.setCw m) hw hs ((hm _ hlt).trans hv)

theorem repeatUntil_setCw {stop : Walk → Bool} {n : Nat} (hm : ∀ i, i < c.n → Memory.read m i = s.cwAt i) :
    repeatUntil c stop n (s.setCw m) = mapNext (·.setCw m) (repeatUntil c stop n s) := by
  induction n generalizing s with
  | zero => rfl
  | succ n ih =>
    rw [repeatUntil, repeatUntil, microStep_setCw hm]
    cases hstep : microStep c s with
    | next u =>
      have hm' : ∀ i, i < c.n → Memory.read m i = u.cwAt i := by rw [eq_carry_of_microStep hstep]; exact hm
      simp only [mapNext_next, andThen_next, setCw_walk, ih hm']
      cases stop u.walk <;> rfl
    | fault x | refused x => rfl

theorem endWalk_carry : endWalk c (b.carry s) = mapNext b.carry (endWalk c s) := by
  by_cases h : s.walk.chr = c.n
  · rw [endWalk_eq_next.2 ⟨h, rfl⟩]
    exact endWalk_eq_next.2 ⟨h, rfl⟩
  · rw [endWalk, endWalk, if_neg h]
    exact if_neg h

theorem andThen_mapNext_carry {r : Result} {f : State → Result} (hf : ∀ u, f (b.carry u) = mapNext b.carry (f u)) :
    andThen (mapNext b.carry r) f = mapNext b.carry (andThen r f) := by
  cases r with
  | next u => exact hf u
  | fault x | refused x => rfl

/-- PL_RUN reads nothing but the class, GRID and CW[0..N-1]: two states that agree there get the same GRID, walk and
FIXED from it (R170). -/
theorem plRunBody_of_agree (hsize : b.sizeSel = s.sizeSel) (hgrid : b.grid = s.grid)
    (hcw : ∀ i, i < c.n → b.cwAt i = s.cwAt i) : plRunBody c b = mapNext b.carry (plRunBody c s) := by
  have hbound : b.walkBound = s.walkBound := by rw [State.walkBound, hsize, State.walkBound]
  have hstart : plStartBody b = b.carry ((plStartBody s).setCw b.cw) := by
    show _ = { b with grid := s.grid, walk := Walk.start, fixed := false }
    rw [← hgrid]
    rfl
  have hrun : repeatUntil c Walk.atEnd s.walkBound (plStartBody b) =
      mapNext b.carry (repeatUntil c Walk.atEnd s.walkBound (plStartBody s)) := by
    rw [hstart, repeatUntil_carry (b := b) (s := (plStartBody s).setCw b.cw) rfl,
      repeatUntil_setCw (s := plStartBody s) hcw]
    cases repeatUntil c Walk.atEnd s.walkBound (plStartBody s) <;> rfl
  rw [plRunBody, hbound, hrun, andThen_mapNext_carry fun u => ?_]
  · rfl
  · rw [endWalk_carry, andThen_mapNext_carry fun _ => plFixupBody_carry]

end Walk

/-! ### The codeword buffer after RS_ENC -/

/-- Every place from D to N - 1 is that of a correction codeword (R125). -/
theorem exists_ecc_place {c : SizeClass} (hc : c ∈ sizeRom) {j : Nat} (hd : c.d ≤ j) (hn : j < c.n) :
    ∃ k i, k < c.b ∧ i < c.s ∧ j = c.d + k + i * c.b := by
  obtain ⟨-, -, -, -, -, -, -, hcount, -⟩ := sizeRom_bounds c hc
  have hb := sizeRom_blocks c hc
  refine ⟨(j - c.d) % c.b, (j - c.d) / c.b, Nat.mod_lt _ hb, Nat.div_lt_of_lt_mul (by omega), ?_⟩
  rw [Nat.add_assoc, Nat.mod_add_div']
  omega

theorem blockData_congr {c : SizeClass} {cw cw' : Memory} {k : Nat} (hk : k < c.b)
    (h : ∀ i, i < c.d → Memory.read cw' i = Memory.read cw i) : blockData c cw' k = blockData c cw k := by
  rw [blockData, blockData, Memory.readAll_congr fun j hj => h j ((mem_dataIndices hk).1 hj).1]

/-- RS_ENC computes CW[0..N-1] from CW[0..D-1] (R126). -/
theorem read_encodedCw_congr {c : SizeClass} (hc : c ∈ sizeRom) {g : List Byte} (hg : g.length = c.s) {cw cw' : Memory}
    (h : ∀ i, i < c.d → Memory.read cw' i = Memory.read cw i) {j : Nat} (hj : j < c.n) :
    Memory.read (encodedCw c g cw') j = Memory.read (encodedCw c g cw) j := by
  rcases Nat.lt_or_ge j c.d with hd | hd
  · have hout : ¬ (c.d ≤ j ∧ j < c.n) := by omega
    rw [read_encodedCw_of_outside hc hg _ hout, read_encodedCw_of_outside hc hg _ hout, h j hd]
  · obtain ⟨k, i, hk, hi, rfl⟩ := exists_ecc_place hc hd hj
    rw [read_encodedCw_ecc hg _ hk hi, read_encodedCw_ecc hg _ hk hi, blockData_congr hk h]

/-- After RS_ENC on held data every codeword holds a value. -/
theorem isSome_read_encodedCw {c : SizeClass} (hc : c ∈ sizeRom) {g : List Byte} (hg : g.length = c.s) {s : State}
    (h : CwHeld s c.d) {j : Nat} (hj : j < c.n) : (Memory.read (encodedCw c g s.cw) j).isSome = true := by
  rcases Nat.lt_or_ge j c.d with hd | hd
  · rw [read_encodedCw_of_outside hc hg _ (by omega)]
    exact h j hd
  · obtain ⟨k, i, hk, hi, rfl⟩ := exists_ecc_place hc hd hj
    rw [read_encodedCw_ecc hg _ hk hi, List.getElem?_eq_getElem (by rwa [rsRemainder_length, hg])]
    rfl

/-! ### SYMBOL -/

/-- The codeword buffer after RS_GEN and RS_ENC of the class. -/
def symbolCw (c : SizeClass) (cw : Memory) : Memory := encodedCw c ((generatorPoly c.s).take c.s) cw

/-- The state after RS_GEN, RS_ENC, PL_CLEAR and PL_FINDER, from which SYMBOL goes on with PL_RUN (R200). -/
def State.symbolDrawn (c : SizeClass) (s : State) : State :=
  plFinderBody c (plClearBody ((rsGenBody c.s s).setCw (symbolCw c s.cw)))

/-- PL_RUN, the last part of SYMBOL, leaves GEN and CW as RS_GEN and RS_ENC wrote them, and ERR, ZERO and RESULT as they
were at issue. -/
theorem fields_of_plRunBody_symbolDrawn {c : SizeClass} {s t : State} (h : plRunBody c (s.symbolDrawn c) = .next t) :
    t.err = s.err ∧ t.zero = s.zero ∧ t.result = s.result ∧ t.genS = BitVec.ofNat 7 c.s ∧
      t.gen = generatorArray c.s ∧ t.cw = symbolCw c s.cw := by
  rw [eq_carry_of_plRunBody h]
  simp [State.carry, State.symbolDrawn, plFinderBody, plClearBody, rsGenBody]

theorem take_generatorPoly_length (n : Nat) : ((generatorPoly n).take n).length = n := by simp [generatorPoly_length]

section Symbol

variable {s : State} {c : SizeClass} (hc : s.sizeClass? = some c)

include hc

theorem toNat_ofNat_s_of_sizeClass : (BitVec.ofNat 7 c.s).toNat = c.s := by
  have := sizeClass_s_le hc
  rw [BitVec.toNat_ofNat, Nat.mod_eq_of_lt (by omega)]

theorem exec_symbol_eq : exec .symbol s = andThen (rsEncBody c (rsGenBody c.s s)) fun s1 =>
    andThen (plRunBody c (plFinderBody c (plClearBody s1))) succeed := withClass_some hc _

theorem exec_symbol_of_not_held (h : ¬ CwHeld s c.d) : exec .symbol s = .fault .uninitRead := by
  have henc := exec_rsEnc_of_not_held (s := rsGenBody c.s s) hc (toNat_ofNat_s_of_sizeClass hc) h
  rw [exec_rsEnc_eq (s := rsGenBody c.s s) hc (toNat_ofNat_s_of_sizeClass hc), andThen_eq_fault] at henc
  obtain hfault | ⟨u, -, hu⟩ := henc
  · rw [exec_symbol_eq hc, hfault, andThen_fault]
  · exact absurd hu (succeed_ne_fault u _)

theorem rsEncBody_rsGenBody (h : CwHeld s c.d) :
    rsEncBody c (rsGenBody c.s s) = .next ((rsGenBody c.s s).setCw (symbolCw c s.cw)) := by
  have hb := sizeRom_blocks c (sizeClass_mem hc)
  rw [rsEncBody, genCoeffs_of_generatorArray (sizeClass_s_le hc) rfl,
    encodeWrites_eq_some (readAll_blockData (s := rsGenBody c.s s) hb h)]
  rfl

/-- SYMBOL with all data codewords held: PL_RUN on the state that the parts before it leave (R200). -/
theorem exec_symbol_of_held (h : CwHeld s c.d) :
    exec .symbol s = andThen (plRunBody c (s.symbolDrawn c)) succeed := by
  rw [exec_symbol_eq hc, rsEncBody_rsGenBody hc h]
  rfl

theorem cwHeld_symbolDrawn (h : CwHeld s c.d) : CwHeld (s.symbolDrawn c) c.n := fun _ hi =>
  isSome_read_encodedCw (sizeClass_mem hc) (take_generatorPoly_length c.s) h hi

theorem exec_symbol_eq_next {t : State} (h : exec .symbol s = .next t) :
    ∃ u, plRunBody c (s.symbolDrawn c) = .next u ∧ t = complete u := by
  by_cases hheld : CwHeld s c.d
  · rw [exec_symbol_of_held hc hheld] at h
    exact andThen_succeed_eq_next h
  · exact nomatch h.symm.trans (exec_symbol_of_not_held hc hheld)

/-- The first four parts of SYMBOL, each a command that completes without error (R200). -/
theorem cleanRun_symbolDrawn (h : CwHeld s c.d) :
    CleanRun [.rsGen c.s, .rsEnc, .plClear, .plFinder] s (complete (s.symbolDrawn c)) := by
  obtain ⟨-, -, -, -, -, -, -, -, hs, hmax, -⟩ := sizeRom_bounds c (sizeClass_mem hc)
  have hgen : exec (.rsGen c.s) s = .next (complete (rsGenBody c.s s)) := if_pos ⟨hs, hmax⟩
  have henc : exec .rsEnc (complete (rsGenBody c.s s)) =
      .next (complete ((rsGenBody c.s s).setCw (symbolCw c s.cw))) := by
    rw [exec_rsEnc_eq (s := complete (rsGenBody c.s s)) hc (toNat_ofNat_s_of_sizeClass hc)]
    exact congrArg (andThen · succeed) (rsEncBody_rsGenBody (s := complete s) hc h)
  have hfinder : exec .plFinder (complete (plClearBody ((rsGenBody c.s s).setCw (symbolCw c s.cw)))) =
      .next (complete (s.symbolDrawn c)) :=
    withClass_some (s := complete (plClearBody ((rsGenBody c.s s).setCw (symbolCw c s.cw)))) hc _
  exact ⟨_, hgen, rfl, _, henc, rfl, _, rfl, rfl, _, hfinder, rfl, rfl⟩

/-- PL_RUN, as a command on the state that the first four parts have completed, leaves what SYMBOL leaves. -/
theorem exec_plRun_symbolDrawn {t : State} (h : plRunBody c (s.symbolDrawn c) = .next t) :
    exec .plRun (complete (s.symbolDrawn c)) = .next (complete t) := by
  have hrun := plRunBody_of_agree (c := c) (b := complete (s.symbolDrawn c)) (s := s.symbolDrawn c) rfl rfl fun _ _ => rfl
  rw [exec_plRun_eq (s := complete (s.symbolDrawn c)) hc, hrun, h, eq_carry_of_plRunBody h]
  rfl

end Symbol

end Sys2Proof.Machine

open Sys2Proof Sys2Proof.Machine Sys2Proof.Claims

/-- Settles O34: RS_ENC leaves every codeword held, so PL_RUN completes; completing in between changes nothing that the
next part reads. -/
theorem symbolEqualsItsParts : Obligations.SymbolEqualsItsParts := by
  refine ⟨runsAs_noOperand fun w hz hop => by simp [decode, hz, hop], fun s hc => withClass_none hc _,
    fun s c hc h => exec_symbol_of_not_held hc h, fun s c hc h => ?_⟩
  obtain ⟨row, e, m, -, hbound, hl⟩ := exists_endsAsListed_of_sizeClass (s := s.symbolDrawn c) hc
  obtain ⟨t, mask, hbody, -, hwalk, -⟩ := plRunBody_of_held (sizeClass_mem hc) hl hbound (cwHeld_symbolDrawn hc h)
  obtain ⟨herr, hzero, hresult, hgenS, -, -⟩ := fields_of_plRunBody_symbolDrawn hbody
  refine ⟨complete t, ?_, rfl, rfl, herr, hzero, hresult,
    (congrArg BitVec.toNat hgenS).trans (toNat_ofNat_s_of_sizeClass hc), congrArg Walk.wstate hwalk,
    cleanRun_append (cleanRun_symbolDrawn hc h) ⟨_, exec_plRun_symbolDrawn hc hbody, rfl, rfl⟩⟩
  rw [exec_symbol_of_held hc h, hbody]
  rfl

/-- Settles O35: the states that PL_RUN starts from agree on GRID, GEN and CW[0..N-1], and it reads nothing else. -/
theorem symbolDependsOnClassAndDataOnly : Obligations.SymbolDependsOnClassAndDataOnly := by
  intro s s' t t' c hc hsize hdata h h'
  have hc' : s'.sizeClass? = some c := by rw [State.sizeClass?, hsize]; exact hc
  obtain ⟨u, hu, rfl⟩ := exec_symbol_eq_next hc h
  obtain ⟨u', hu', rfl⟩ := exec_symbol_eq_next hc' h'
  have hcw : ∀ i, i < c.n → (s'.symbolDrawn c).cwAt i = (s.symbolDrawn c).cwAt i := fun i hi =>
    read_encodedCw_congr (sizeClass_mem hc) (take_generatorPoly_length c.s) hdata hi
  rw [plRunBody_of_agree (b := s'.symbolDrawn c) (s := s.symbolDrawn c) hsize rfl hcw, hu] at hu'
  obtain rfl := Host.Outcome.next.inj hu'
  obtain ⟨-, -, -, -, hgen, hcwu⟩ := fields_of_plRunBody_symbolDrawn hu
  refine ⟨rfl, rfl, rfl, hgen.symm, fun i hi => (hcw i hi).trans ?_⟩
  exact congrArg (Memory.read · i) hcwu.symm

end

section
/-! PROOFS, the exceptions (spec/60_exceptions.md): a command raises the first error of its checks and changes nothing
else then (R211 to R213), and what the step does with the pending word (R210). -/

namespace Sys2Proof.Machine

open Claims

/-! ### The first error of a command -/

section FirstError

variable {i : Instr} {s t : State}

/-- A command does what R212 and R213 say: it raises its first error, or without one it completes what it performs. -/
def RaisesFirstError (i : Instr) (s : State) : Prop :=
  (firstError s i ≠ .none ∧ exec i s = raiseError (firstError s i) s) ∨
  (firstError s i = .none ∧ ∃ r, exec i s = andThen r succeed ∧ ∀ u, r = .next u → Performs i s u)

theorem RaisesFirstError.of_error (e : ErrCode) (he : firstError s i = e) (hne : e ≠ .none)
    (h : exec i s = raiseError e s) : RaisesFirstError i s := by
  subst he
  exact .inl ⟨hne, h⟩

theorem RaisesFirstError.of_body {r : Result} (he : firstError s i = .none) (h : exec i s = andThen r succeed)
    (hr : ∀ u, r = .next u → Performs i s u) : RaisesFirstError i s :=
  .inr ⟨he, r, h, hr⟩

theorem RaisesFirstError.of_succeed {u : State} (he : firstError s i = .none) (h : exec i s = succeed u)
    (hu : Performs i s u) : RaisesFirstError i s :=
  .of_body (r := .next u) he h fun _ hr => Host.Outcome.next.inj hr ▸ hu

theorem noClass_of_none (hc : s.sizeClass? = none) : decide (30 ≤ s.sizeSel.toNat) = true :=
  decide_eq_true (classRow_eq_none.1 hc)

theorem noClass_of_some {c : SizeClass} (hc : s.sizeClass? = some c) : decide (30 ≤ s.sizeSel.toNat) = false :=
  decide_eq_false (Nat.not_le.2 (sizeClass_lt hc))

/-- BAD_SIZE is the first error of a command that begins with the size class check; the rest is its own. -/
theorem RaisesFirstError.of_withClass {f : SizeClass → Result} (hi : exec i s = withClass s f)
    (hnone : decide (30 ≤ s.sizeSel.toNat) = true → firstError s i = .badSize)
    (hsome : ∀ c, s.sizeClass? = some c → decide (30 ≤ s.sizeSel.toNat) = false → exec i s = f c →
      RaisesFirstError i s) : RaisesFirstError i s := by
  rcases withClass_cases s f with ⟨hc, hw⟩ | ⟨c, hc, hw⟩
  · exact .of_error .badSize (hnone (noClass_of_none hc)) (by decide) (hi.trans hw)
  · exact hsome c hc (noClass_of_some hc) (hi.trans hw)

theorem raisesFirstError_gfDiv (a b : Byte) : RaisesFirstError (.gfDiv a b) s := by
  by_cases hb : b = 0#8
  · subst hb
    exact .of_error .divZero rfl (by decide) rfl
  · obtain ⟨q, hq, -⟩ := exists_gfDiv a hb
    exact .of_succeed (by simp [firstError, hb]) (exec_gfDiv_of_some hq s) ⟨q, rfl⟩

theorem raisesFirstError_gfLog (a : Byte) : RaisesFirstError (.gfLog a) s := by
  by_cases ha : a = 0#8
  · subst ha
    exact .of_error .logZero rfl (by decide) rfl
  · obtain ⟨n, hn⟩ := exists_logRom ha
    exact .of_succeed (by simp [firstError, ha]) (exec_gfLog_of_some hn s) ⟨_, rfl⟩

theorem raisesFirstError_rsGen (n : Nat) : RaisesFirstError (.rsGen n) s := by
  by_cases hn : 1 ≤ n ∧ n ≤ Config.maxS
  · have hgood : ¬ (n = 0 ∨ 68 < n) := by rw [Config.maxS] at hn; omega
    exact .of_succeed (by simp [firstError, hgood]) (if_pos hn) ⟨hn, rfl⟩
  · have hbad : n = 0 ∨ 68 < n := by rw [Config.maxS] at hn; omega
    exact .of_error .badS (by simp [firstError, hbad]) (by decide) (if_neg hn)

theorem raisesFirstError_rsEnc : RaisesFirstError .rsEnc s := by
  refine .of_withClass rfl (fun h => by simp [firstError, h]) fun c hc h hexec => ?_
  by_cases hg : s.genS.toNat = c.s
  · exact .of_body (by simp [firstError, h, hc, hg]) (exec_rsEnc_eq hc hg) fun u hu => ⟨c, hc, hg, hu⟩
  · exact .of_error .genMismatch (by simp [firstError, h, hc, hg]) (by decide) (hexec.trans (if_pos hg))

/-- RS_REM and RS_SYN have the same checks and so the same first error. -/
theorem RaisesFirstError.of_withBlock {k : Nat} {f : SizeClass → List Byte → State}
    (hfirst : firstError s i = firstError s (.rsRem k)) (hi : exec i s = withBlock k s fun c cs => succeed (f c cs))
    (hu : ∀ c cs, Performs i s (f c cs)) : RaisesFirstError i s := by
  rcases withBlock_cases k s fun c cs => succeed (f c cs) with
    ⟨hc, hw⟩ | ⟨c, hc, ⟨hk, hw⟩ | ⟨hk, hg, hw⟩ | ⟨hk, hg, _, hw⟩ | ⟨cs, hk, hg, _, hw⟩⟩
  · exact .of_error .badSize (hfirst.trans (by simp [firstError, noClass_of_none hc])) (by decide) (hi.trans hw)
  all_goals have h := noClass_of_some hc
  · exact .of_error .badBlock (hfirst.trans (by simp [firstError, h, hc, hk])) (by decide) (hi.trans hw)
  all_goals have hk := Nat.not_le.2 hk
  · exact .of_error .genMismatch (hfirst.trans (by simp [firstError, h, hc, hk, hg])) (by decide) (hi.trans hw)
  · exact .of_body (hfirst.trans (by simp [firstError, h, hc, hk, hg])) 
      (r := .fault .uninitRead) (hi.trans hw) fun _ hr => nomatch hr
  · exact .of_succeed (hfirst.trans (by simp [firstError, h, hc, hk, hg])) (hi.trans hw) (hu c cs)

theorem raisesFirstError_plStep : RaisesFirstError .plStep s := by
  refine .of_withClass rfl (fun h => by simp [firstError, h]) fun c hc h hexec => ?_
  cases hw : s.walk.wstate with
  | idle => exact .of_error .walkInactive (by simp [firstError, h, hw]) (by decide) (hexec.trans (by simp [hw]))
  | done => exact .of_error .walkOver (by simp [firstError, h, hw]) (by decide) (hexec.trans (by simp [hw]))
  | active => exact .of_body (by simp [firstError, h, hw]) (exec_plStep_eq hc hw) fun u hu => ⟨c, hc, hw, hu⟩

theorem raisesFirstError_plFixup : RaisesFirstError .plFixup s := by
  refine .of_withClass rfl (fun h => by simp [firstError, h]) fun c hc h hexec => ?_
  by_cases hw : s.walk.wstate = .done
  · exact .of_body (by simp [firstError, h, hw]) (exec_plFixup_of_done hc hw) fun u hu => ⟨c, hc, hw, hu⟩
  · exact .of_error .walkNotDone (by simp [firstError, h, hw]) (by decide) (hexec.trans (if_pos hw))

/-- Every command raises the first error of R212. -/
theorem raisesFirstError (i : Instr) (s : State) : RaisesFirstError i s := by
  cases i with
  | nop | plClear => exact .of_succeed rfl rfl rfl
  | gfAdd | gfMul | gfExp => exact .of_succeed rfl rfl ⟨_, rfl⟩
  | gfDiv a b => exact raisesFirstError_gfDiv a b
  | gfLog a => exact raisesFirstError_gfLog a
  | rsGen n => exact raisesFirstError_rsGen n
  | rsEnc => exact raisesFirstError_rsEnc
  | rsRem k => exact .of_withBlock rfl rfl fun c cs => ⟨_, _, rfl⟩
  | rsSyn k => exact .of_withBlock (k := k) rfl rfl fun c cs => ⟨_, _, rfl⟩
  | plFinder | plStart =>
    refine .of_withClass rfl (fun h => by simp [firstError, h]) fun c hc h hexec => ?_
    exact .of_succeed (by simp [firstError, h]) hexec ⟨c, hc, rfl⟩
  | plStep => exact raisesFirstError_plStep
  | plRun =>
    refine .of_withClass rfl (fun h => by simp [firstError, h]) fun c hc h hexec => ?_
    exact .of_body (by simp [firstError, h]) hexec fun u hu => ⟨c, hc, hu⟩
  | plFixup => exact raisesFirstError_plFixup
  | symbol =>
    refine .of_withClass rfl (fun h => by simp [firstError, h]) fun c hc h hexec => ?_
    refine .of_body (by simp [firstError, h]) (hexec.trans (andThen_assoc _ _ _).symm) fun u hu => ?_
    obtain ⟨u1, h1, h2⟩ := andThen_eq_next.1 hu
    exact ⟨c, u1, hc, h1, h2⟩

/-- All that a command that answers a next state leaves, by its first error (R212, R213). -/
theorem exec_eq_next_by_firstError (h : exec i s = .next t) :
    (firstError s i ≠ .none ∧ t = failed (firstError s i) s) ∨
    (firstError s i = .none ∧ ∃ u, Performs i s u ∧ t = complete u) := by
  refine (raisesFirstError i s).imp (fun ⟨hne, he⟩ => ⟨hne, raiseError_eq_next.1 (he.symm.trans h)⟩)
    fun ⟨hnone, r, he, hr⟩ => ⟨hnone, ?_⟩
  obtain ⟨u, hu, ht⟩ := andThen_succeed_eq_next (he.symm.trans h)
  exact ⟨u, hr u hu, ht⟩

theorem errCode_of_exec (h : exec i s = .next t) : t.errCode = firstError s i := by
  rcases exec_eq_next_by_firstError h with ⟨-, rfl⟩ | ⟨hnone, u, -, rfl⟩
  · rfl
  · exact hnone.symm

theorem err_of_outside (h : t.outside = s.outside) : t.err = s.err := show t.outside.err = s.outside.err by rw [h]

/-- An error is precise (R213): DONE, ERR, ERRCODE and PENDING are all that it changes; without one ERR is kept. -/
def EndsPrecisely (s t : State) : Prop :=
  (t.errCode ≠ .none → t = failed t.errCode s) ∧ (t.errCode = .none → t.err = s.err ∧ t.done = true)

theorem endsPrecisely_failed {e : ErrCode} (he : e ≠ .none) (s : State) : EndsPrecisely s (failed e s) :=
  ⟨fun _ => rfl, fun h => absurd h he⟩

theorem endsPrecisely_exec (h : exec i s = .next t) : EndsPrecisely s t := by
  rcases exec_eq_next_by_firstError h with ⟨hne, rfl⟩ | ⟨-, u, hu, rfl⟩
  · exact endsPrecisely_failed hne s
  · have herr := err_of_outside (performs_outside hu)
    exact ⟨fun hne => absurd rfl hne, fun _ => ⟨herr, rfl⟩⟩

theorem endsPrecisely_engineStep (hp : s.pending ≠ none) (h : engineStep s = .next t) : EndsPrecisely s t := by
  obtain ⟨w, hw⟩ := Option.ne_none_iff_exists'.1 hp
  cases hd : decode w with
  | error e =>
    rw [raiseError_eq_next.1 ((engineStep_illegal hw hd).symm.trans h)]
    exact endsPrecisely_failed (e := .illegalOp) (by decide) s
  | ok i => exact endsPrecisely_exec ((engineStep_ok hw hd).symm.trans h)

end FirstError

/-! ### Which command raises which error (R211) -/

/-- R211 lists the mnemonic among those that raise the code. -/
def Raises (name : String) (e : ErrCode) : Prop := ∃ row ∈ raisedBy, row.2.1 = e ∧ name ∈ row.2.2

/-- The code of the first check that holds, as in `firstError`. -/
def firstOf (checks : List (Bool × ErrCode)) : ErrCode := ((checks.find? (·.1)).map (·.2)).getD .none

theorem firstOf_mem (checks : List (Bool × ErrCode)) :
    firstOf checks = .none ∨ firstOf checks ∈ checks.map (·.2) := by
  unfold firstOf
  cases h : checks.find? (·.1) with
  | none => exact .inl rfl
  | some p => exact .inr (List.mem_map_of_mem (List.mem_of_find?_eq_some h))

theorem firstOf_raises {name : String} {checks : List (Bool × ErrCode)} (h : ∀ e ∈ checks.map (·.2), Raises name e) :
    firstOf checks = .none ∨ Raises name (firstOf checks) :=
  (firstOf_mem checks).imp_right (h _)

theorem firstError_raises (i : Instr) (s : State) : firstError s i = .none ∨ Raises (mnemonic i) (firstError s i) := by
  cases i with
  | nop | gfAdd | gfMul | gfExp | plClear => exact .inl rfl
  | gfDiv | gfLog | rsGen | rsEnc | rsRem | rsSyn | plFinder | plStart | plStep | plRun | plFixup | symbol =>
    exact firstOf_raises (by simp [mnemonic, Raises, raisedBy])

/-! ### ERRCODE and the host -/

theorem errCode_hostRead (addr : Addr) (width : Width) (s : State) : (hostRead addr width s).errCode = s.errCode :=
  hostRead_keeps (P := fun t => t.errCode = s.errCode) (fun _ _ _ _ _ h => h) addr width rfl

theorem errCode_writeAt {s : State} {l : Location} {v : Word} (h : l = .ctrl → v.getLsbD 1 = false) :
    (writeAt l v s).errCode = s.errCode := by
  cases l with
  | ctrl =>
    rcases writeCtrl_cases v s with ⟨hsrst, _⟩ | ⟨_, he⟩
    · cases hsrst.symm.trans (h rfl)
    · rw [writeAt, he]
  | cmd | size | cw | grid => exact unlessBusy_keeps (fun t => t.errCode = s.errCode) rfl rfl
  | status | id | result | geom | genS | plCur | plInfo | plLast | gen | rem | syn => rfl

theorem errCode_transact {t : Transaction} (ht : NotSoftReset t) (s : State) : (transact t s).errCode = s.errCode := by
  cases t with
  | read addr width => exact errCode_hostRead addr width s
  | write addr width v =>
    show (hostWrite addr width v s).errCode = s.errCode
    rcases hostWrite_cases addr width v s with ⟨_, he⟩ | ⟨l, hl, he⟩ <;> rw [he]
    refine errCode_writeAt fun hctrl => ht ⟨(accept_eq_some hl).1, ?_⟩
    exact addr_of_accept_ctrl (hctrl ▸ hl)

/-! ### The engine's turn -/

theorem step_of_engine {s : State} (h : s.nextTurn = .engine) : step s = engineStep s.popTurn := by
  rw [step, h]
  rfl

theorem withFetchWord_eq {w : Nat} (hw : w < 2 ^ 32) (s : State) :
    s.withFetchWord 32 w = placeCommand (BitVec.ofNat 32 w) s := by
  rw [State.withFetchWord, Nat.mod_eq_of_lt hw]

end Sys2Proof.Machine

open Sys2Proof Sys2Proof.Machine Sys2Proof.Claims

/-- Settles O36: a command either raises its first error, or completes what it performs, which leaves ERR alone. -/
theorem errorsArePrecise : Obligations.ErrorsArePrecise :=
  ⟨fun _ _ _ h => endsPrecisely_exec h, fun _ _ hp h => endsPrecisely_engineStep hp h⟩

/-- Settles O37: by the checks of each command in the order that they are made. -/
theorem firstErrorIsReported : Obligations.FirstErrorIsReported := by
  refine ⟨fun i s t h => errCode_of_exec h, fun i s hne => ?_, fun s w e hw hd => engineStep_illegal hw hd, rfl, rfl,
    by decide, fun i s t h => ?_, fun s tr ht => errCode_transact ht s⟩
  · rcases raisesFirstError i s with ⟨-, he⟩ | ⟨hnone, -⟩
    · exact he
    · exact absurd hnone hne
  · rw [errCode_of_exec h]
    exact firstError_raises i s

/-- Settles O43: the engine's turn is the engine step on the state with the turn used up. -/
theorem stepPerformsPendingCommand : Obligations.StepPerformsPendingCommand := by
  refine ⟨fun s w i ht hw hd => ?_, fun s w e ht hw hd => ?_, fun s ht hp => ?_, fun s ht hp => ?_, fun s ht hp => ?_,
    fun s w i hw hd => ?_⟩
  · rw [step_of_engine ht]
    exact engineStep_ok (s := s.popTurn) hw hd
  · rw [step_of_engine ht]
    exact engineStep_illegal (s := s.popTurn) hw hd
  · rw [step_of_engine ht]
    exact engineStep_idle (s := s.popTurn) hp
  · rw [State.nextTurn, ht]
    exact if_pos (Option.isSome_iff_ne_none.2 hp)
  · simp [State.nextTurn, ht, State.busy, hp]
  · rw [withFetchWord_eq hw, step_of_engine rfl]
    exact engineStep_ok (s := (placeCommand (BitVec.ofNat 32 w) s).popTurn) rfl hd

end

section
/-! PROOFS, the exceptions: no step is refused, and under the invariant the only model fault is UNINIT_READ (R49,
R220). -/

namespace Sys2Proof.Machine

open Claims

/-- All that the engine's turn can do (R210). -/
theorem engineStep_cases (s : State) :
    engineStep s = .next s ∨ engineStep s = raiseError .illegalOp s ∨ ∃ i, engineStep s = exec i s := by
  cases hp : s.pending with
  | none => exact .inl (engineStep_idle hp)
  | some w =>
    cases hd : decode w with
    | error e => exact .inr (.inl (engineStep_illegal hp hd))
    | ok i => exact .inr (.inr ⟨i, engineStep_ok hp hd⟩)

/-! ### No step is refused -/

/-- The result is no refusal. -/
def NotRefused (r : Result) : Prop := ∀ x, r ≠ .refused x

section NotRefused

variable (c : SizeClass) (s : State)

theorem notRefused_next (t : State) : NotRefused (.next t) := fun _ h => nomatch h

theorem notRefused_fault (x : Fault) : NotRefused (.fault x) := fun _ h => nomatch h

theorem notRefused_succeed : NotRefused (succeed s) := succeed_ne_refused s

theorem notRefused_raiseError (e : ErrCode) : NotRefused (raiseError e s) := raiseError_ne_refused e s

variable {c s}

theorem NotRefused.andThen {r : Result} {f : State → Result} (hr : NotRefused r) (hf : ∀ t, NotRefused (f t)) :
    NotRefused (andThen r f) := fun x h =>
  (andThen_eq_refused.1 h).elim (hr x) fun ⟨t, _, ht⟩ => hf t x ht

theorem NotRefused.ite {p : Prop} [Decidable p] {r r' : Result} (hr : NotRefused r) (hr' : NotRefused r') :
    NotRefused (if p then r else r') := by
  split
  · exact hr
  · exact hr'

theorem NotRefused.withClass {f : SizeClass → Result} (hf : ∀ c, NotRefused (f c)) : NotRefused (withClass s f) := by
  rcases withClass_cases s f with ⟨_, he⟩ | ⟨c, _, he⟩ <;> rw [he]
  · exact notRefused_raiseError s _
  · exact hf c

theorem NotRefused.withBlock {k : Nat} {f : SizeClass → List Byte → Result} (hf : ∀ c cs, NotRefused (f c cs)) :
    NotRefused (withBlock k s f) := by
  refine .withClass fun c => .ite (notRefused_raiseError s _) (.ite (notRefused_raiseError s _) ?_)
  cases Memory.readAll s.cw (blockIndices c k) with
  | none => exact notRefused_fault _
  | some cs => exact hf c cs

variable (c s)

theorem notRefused_rsEncBody : NotRefused (rsEncBody c s) := by
  rcases rsEncBody_cases c s with ⟨_, he⟩ | ⟨ws, _, he⟩ <;> rw [he]
  · exact notRefused_fault _
  · exact notRefused_next _

theorem notRefused_microStep : NotRefused (microStep c s) := by
  rcases microStep_cases c s with ⟨_, he⟩ | ⟨w, _, _, he⟩ | ⟨w, l, _, _, _, he⟩ | ⟨w, l, v, _, _, _, he⟩ <;> rw [he]
  · exact notRefused_fault _
  · exact notRefused_next _
  · exact notRefused_fault _
  · exact notRefused_next _

theorem notRefused_repeatUntil (stop : Walk → Bool) (n : Nat) : NotRefused (repeatUntil c stop n s) := by
  induction n generalizing s with
  | zero => exact notRefused_fault _
  | succ n ih => exact (notRefused_microStep c s).andThen fun t => .ite (notRefused_next t) (ih t)

theorem notRefused_endWalk : NotRefused (endWalk c s) := .ite (notRefused_next _) (notRefused_fault _)

theorem notRefused_plFixupBody : NotRefused (plFixupBody c s) := by
  rcases plFixupBody_cases c s with ⟨_, he⟩ | ⟨m, _, ⟨_, he⟩ | ⟨_, he⟩⟩ <;> rw [he]
  · exact notRefused_fault _
  · exact notRefused_next _
  · exact notRefused_next _

theorem notRefused_plStepBody : NotRefused (plStepBody c s) :=
  (notRefused_repeatUntil c s _ _).andThen fun s1 =>
    (NotRefused.ite (notRefused_repeatUntil c s1 _ _) (notRefused_next s1)).andThen fun s2 =>
      .ite (notRefused_endWalk c s2) (notRefused_next s2)

theorem notRefused_plRunBody : NotRefused (plRunBody c s) :=
  (notRefused_repeatUntil c _ _ _).andThen fun s1 => (notRefused_endWalk c s1).andThen (notRefused_plFixupBody c)

/-- Every command has a meaning. -/
theorem notRefused_exec (i : Instr) : NotRefused (exec i s) := by
  cases i with
  | nop | gfAdd | gfMul | gfExp | plClear => exact notRefused_succeed _
  | gfDiv a b =>
    rw [exec, execGfDiv]
    cases gfDiv a b with
    | none => exact notRefused_raiseError s _
    | some q => exact notRefused_succeed _
  | gfLog a =>
    rw [exec, execGfLog]
    cases logRom a with
    | none => exact notRefused_raiseError s _
    | some n => exact notRefused_succeed _
  | rsGen n => exact .ite (notRefused_succeed _) (notRefused_raiseError s _)
  | rsEnc =>
    exact .withClass fun c => .ite (notRefused_raiseError s _) ((notRefused_rsEncBody c s).andThen notRefused_succeed)
  | rsRem k | rsSyn k => exact .withBlock fun c cs => notRefused_succeed _
  | plFinder | plStart => exact .withClass fun c => notRefused_succeed _
  | plStep =>
    refine .withClass fun c => ?_
    cases s.walk.wstate with
    | idle | done => exact notRefused_raiseError s _
    | active => exact (notRefused_plStepBody c s).andThen notRefused_succeed
  | plRun => exact .withClass fun c => (notRefused_plRunBody c s).andThen notRefused_succeed
  | plFixup =>
    exact .withClass fun c => .ite (notRefused_raiseError s _) ((notRefused_plFixupBody c s).andThen notRefused_succeed)
  | symbol =>
    exact .withClass fun c => (notRefused_rsEncBody c _).andThen fun s1 =>
      (notRefused_plRunBody c _).andThen notRefused_succeed

theorem notRefused_engineStep : NotRefused (engineStep s) := by
  rcases engineStep_cases s with he | he | ⟨i, he⟩ <;> rw [he]
  · exact notRefused_next s
  · exact notRefused_raiseError s _
  · exact notRefused_exec s i

theorem notRefused_step : NotRefused (step s) := by
  rcases step_cases s with ⟨_, he⟩ | ⟨_, he⟩ | ⟨_, he⟩ <;> rw [he]
  · exact notRefused_next _
  · exact notRefused_engineStep _
  · exact notRefused_next _

end NotRefused

/-! ### The only model fault -/

/-- The result is a next state, or UNINIT_READ from a state that lacks a codeword. -/
def FaultsOnlyUninit (s : State) (r : Result) : Prop :=
  (∃ t, r = .next t) ∨ (r = .fault .uninitRead ∧ ∃ i, i < Config.cwSize ∧ s.cwAt i = none)

section FaultsOnlyUninit

variable {s : State} {c : SizeClass} {r : Result}

theorem faultsOnlyUninit_next {t : State} (h : r = .next t) : FaultsOnlyUninit s r := .inl ⟨t, h⟩

theorem faultsOnlyUninit_withClass {f : SizeClass → Result}
    (h : ∀ c, s.sizeClass? = some c → FaultsOnlyUninit s (f c)) : FaultsOnlyUninit s (withClass s f) := by
  rcases withClass_cases s f with ⟨_, he⟩ | ⟨c, hc, he⟩
  · exact faultsOnlyUninit_next he
  · exact he ▸ h c hc

/-- Every class has at most as many codewords as the buffer (R47). -/
theorem faultsOnlyUninit_of_lt (hc : s.sizeClass? = some c) {i : Nat} (hi : i < c.n) (hv : s.cwAt i = none)
    (h : r = .fault .uninitRead) : FaultsOnlyUninit s r := by
  obtain ⟨-, -, -, -, -, -, hn, -⟩ := sizeRom_bounds c (sizeClass_mem hc)
  exact .inr ⟨h, i, hi.trans_le hn, hv⟩

/-- A command that completes with the first `n` codewords held and otherwise faults with UNINIT_READ. -/
theorem faultsOnlyUninit_of_held (hc : s.sizeClass? = some c) {n : Nat} (hn : n ≤ c.n)
    (hheld : CwHeld s n → ∃ t, r = .next t) (hnot : ¬ CwHeld s n → r = .fault .uninitRead) :
    FaultsOnlyUninit s r := by
  by_cases h : CwHeld s n
  · exact .inl (hheld h)
  · obtain ⟨i, hi, hv⟩ : ∃ i, i < n ∧ s.cwAt i = none := by simpa [CwHeld] using h
    exact faultsOnlyUninit_of_lt hc (hi.trans_le hn) hv (hnot h)

theorem sizeRom_d_le (hc : s.sizeClass? = some c) : c.d ≤ c.n := by
  obtain ⟨-, -, -, -, -, -, -, hn, -⟩ := sizeRom_bounds c (sizeClass_mem hc)
  omega

/-- The codewords of a block stand in CW[0..N-1] (R127). -/
theorem blockIndices_lt (hc : s.sizeClass? = some c) {k j : Nat} (hk : k < c.b) (hj : j ∈ blockIndices c k) :
    j < c.n := by
  rcases List.mem_append.1 hj with hj | hj
  · exact ((mem_dataIndices hk).1 hj).1.trans_le (sizeRom_d_le hc)
  · exact (eccIndices_bounds (sizeClass_mem hc) hk hj).2

theorem faultsOnlyUninit_withBlock {k : Nat} {f : SizeClass → List Byte → State} :
    FaultsOnlyUninit s (withBlock k s fun c cs => succeed (f c cs)) := by
  rcases withBlock_cases k s fun c cs => succeed (f c cs) with
    ⟨_, hw⟩ | ⟨c, hc, ⟨_, hw⟩ | ⟨_, _, hw⟩ | ⟨hk, _, hr, hw⟩ | ⟨cs, _, _, _, hw⟩⟩
  · exact faultsOnlyUninit_next hw
  · exact faultsOnlyUninit_next hw
  · exact faultsOnlyUninit_next hw
  · obtain ⟨j, hj, hv⟩ := (Memory.readAll_eq_none _ _).1 hr
    exact faultsOnlyUninit_of_lt hc (blockIndices_lt hc hk hj) hv hw
  · exact faultsOnlyUninit_next hw

theorem faultsOnlyUninit_rsEnc : FaultsOnlyUninit s (exec .rsEnc s) := by
  refine faultsOnlyUninit_withClass fun c hc => ?_
  by_cases hg : s.genS.toNat = c.s
  · rw [if_neg (not_not.2 hg), ← exec_rsEnc_eq hc hg]
    exact faultsOnlyUninit_of_held hc (sizeRom_d_le hc) (fun h => ⟨_, exec_rsEnc_of_held hc hg h⟩)
      (exec_rsEnc_of_not_held hc hg)
  · exact faultsOnlyUninit_next (if_pos hg)

theorem faultsOnlyUninit_plStep (hs : s.WalkOk) : FaultsOnlyUninit s (exec .plStep s) := by
  obtain ⟨-, hnone, hidle, hdone, huninit, hplaces⟩ := plStepPlacesOneCodeword
  cases hc : s.sizeClass? with
  | none => exact faultsOnlyUninit_next (hnone s hc)
  | some c =>
    cases hw : s.walk.wstate with
    | idle => exact faultsOnlyUninit_next (hidle s c hc hw)
    | done => exact faultsOnlyUninit_next (hdone s c hc hw)
    | active =>
      cases hv : s.cwAt s.walk.chr with
      | none =>
        obtain ⟨-, -, -, -, hlt⟩ := activeOn_of_walkOk hc hw hs
        exact faultsOnlyUninit_of_lt hc hlt hv (huninit s c hc hw hs hv)
      | some v =>
        obtain ⟨t, -, h, -⟩ := hplaces s c v hc hw hs hv
        exact faultsOnlyUninit_next h

theorem faultsOnlyUninit_plRun : FaultsOnlyUninit s (exec .plRun s) := by
  obtain ⟨-, hnone, hnot, hheld⟩ := plRunPlacesWholeSymbol
  cases hc : s.sizeClass? with
  | none => exact faultsOnlyUninit_next (hnone s hc)
  | some c =>
    refine faultsOnlyUninit_of_held hc le_rfl (fun h => ?_) (hnot s c hc)
    obtain ⟨t, -, -, -, -, -, -, ht, -⟩ := hheld s c hc h
    exact ⟨t, ht⟩

theorem faultsOnlyUninit_symbol : FaultsOnlyUninit s (exec .symbol s) := by
  obtain ⟨-, hnone, hnot, hheld⟩ := symbolEqualsItsParts
  cases hc : s.sizeClass? with
  | none => exact faultsOnlyUninit_next (hnone s hc)
  | some c =>
    refine faultsOnlyUninit_of_held hc (sizeRom_d_le hc) (fun h => ?_) (hnot s c hc)
    obtain ⟨t, ht, -⟩ := hheld s c hc h
    exact ⟨t, ht⟩

/-- A finished walk has a mask. -/
theorem Walk.DoneOn.exists_mask {w : Walk} (h : w.DoneOn c) : ∃ m, w.mask = some m := by
  obtain ⟨n, w', m, -, -, -, hm, rfl | rfl⟩ := h
  · exact ⟨m, hm⟩
  · exact ⟨_, rfl⟩

theorem exists_mask_of_walkOk (hw : s.walk.wstate = .done) (h : s.WalkOk) : ∃ m, s.walk.mask = some m := by
  rcases walkOk_iff.1 h with hi | ⟨c, _, ha | hd⟩
  · cases hw.symm.trans hi
  · cases hw.symm.trans ha.1
  · exact hd.exists_mask

theorem faultsOnlyUninit_plFixup (hs : s.WalkOk) : FaultsOnlyUninit s (exec .plFixup s) := by
  refine faultsOnlyUninit_withClass fun c hc => ?_
  by_cases hw : s.walk.wstate = .done
  · obtain ⟨m, hm⟩ := exists_mask_of_walkOk hw hs
    rw [if_neg (not_not.2 hw)]
    rcases plFixupBody_cases c s with ⟨hnone, -⟩ | ⟨m', _, ⟨_, he⟩ | ⟨_, he⟩⟩
    · cases hnone.symm.trans hm
    · exact faultsOnlyUninit_next (congrArg (andThen · succeed) he)
    · exact faultsOnlyUninit_next (congrArg (andThen · succeed) he)
  · exact faultsOnlyUninit_next (if_pos hw)

/-- The only model fault of a command on a walk that PL_START began is UNINIT_READ (R220). -/
theorem faultsOnlyUninit_exec (i : Instr) (hs : s.WalkOk) : FaultsOnlyUninit s (exec i s) := by
  cases i with
  | nop | gfAdd | gfMul | gfExp | plClear => exact faultsOnlyUninit_next rfl
  | gfDiv a b =>
    rw [exec, execGfDiv]
    cases gfDiv a b <;> exact faultsOnlyUninit_next rfl
  | gfLog a =>
    rw [exec, execGfLog]
    cases logRom a <;> exact faultsOnlyUninit_next rfl
  | rsGen n =>
    rw [exec, execRsGen]
    split <;> exact faultsOnlyUninit_next rfl
  | rsEnc => exact faultsOnlyUninit_rsEnc
  | rsRem k | rsSyn k => exact faultsOnlyUninit_withBlock
  | plFinder | plStart => exact faultsOnlyUninit_withClass fun c _ => faultsOnlyUninit_next rfl
  | plStep => exact faultsOnlyUninit_plStep hs
  | plRun => exact faultsOnlyUninit_plRun
  | plFixup => exact faultsOnlyUninit_plFixup hs
  | symbol => exact faultsOnlyUninit_symbol

theorem faultsOnlyUninit_step (hs : s.Inv) : FaultsOnlyUninit s (step s) := by
  obtain ⟨-, hwalk⟩ := inv_iff.1 hs
  rcases step_cases s with ⟨_, he⟩ | ⟨_, he⟩ | ⟨_, he⟩
  · exact faultsOnlyUninit_next he
  · rw [he]
    rcases engineStep_cases s.popTurn with he | he | ⟨i, he⟩
    · exact faultsOnlyUninit_next he
    · exact faultsOnlyUninit_next he
    · exact he ▸ faultsOnlyUninit_exec (s := s.popTurn) i hwalk
  · exact faultsOnlyUninit_next he

end FaultsOnlyUninit

end Sys2Proof.Machine

open Sys2Proof Sys2Proof.Machine Sys2Proof.Claims

/-- Settles O60: by the cases of each command; a walk that PL_START began never violates R167, so a command can only
miss a codeword. -/
theorem onlyUninitReadCanFault : Obligations.OnlyUninitReadCanFault := by
  refine ⟨fun s f hs h => ?_, fun s => notRefused_step s, fun s hs hheld => ?_⟩
  · rcases faultsOnlyUninit_step hs with ⟨t, ht⟩ | ⟨hf, hmissing⟩
    · cases h.symm.trans ht
    · cases h.symm.trans hf
      exact ⟨rfl, hmissing⟩
  · refine (faultsOnlyUninit_step hs).resolve_right fun ⟨_, i, hi, hv⟩ => ?_
    cases (hheld i hi).symm.trans (congrArg Option.isSome hv)

end

section
/-! PROOFS, reset and hazards (spec/70_reset_and_hazards.md): PL_FINDER and PL_RUN write different GRID cells and read
none, so either order leaves the same state (R248); the state after pin reset (R241). -/

namespace Sys2Proof.Machine

open Claims

/-! ### Writes to different keys -/

/-- Writes to two different keys may change places: each key goes before, onto or behind the first one of the list, and
behind it the rest of the list decides. The list need not be canonical. -/
theorem Memory.write_comm (m : Memory) {k j : Nat} (hkj : k ≠ j) (v u : Byte) :
    Memory.write (Memory.write m k v) j u = Memory.write (Memory.write m j u) k v := by
  induction m with
  | nil => grind [Memory.write]
  | cons cell rest ih => grind [Memory.write]

/-- A write may be taken over a list of writes to other keys. -/
theorem Memory.writeAll_write (m : Memory) {k : Nat} (v : Byte) {cells : List Host.Cell}
    (h : ∀ cell ∈ cells, k ≠ cell.1) :
    Memory.writeAll (Memory.write m k v) cells = Memory.write (Memory.writeAll m cells) k v := by
  induction cells generalizing m with
  | nil => rfl
  | cons cell cells ih =>
    obtain ⟨hcell, hcells⟩ := List.forall_mem_cons.1 h
    rw [Memory.writeAll_cons, Memory.writeAll_cons, Memory.write_comm m hcell, ih _ hcells]

/-- Two lists of writes with no key in common may change places. -/
theorem Memory.writeAll_comm (m : Memory) {xs ys : List Host.Cell} (h : ∀ x ∈ xs, ∀ y ∈ ys, x.1 ≠ y.1) :
    Memory.writeAll (Memory.writeAll m xs) ys = Memory.writeAll (Memory.writeAll m ys) xs := by
  induction xs generalizing m with
  | nil => rfl
  | cons x xs ih =>
    obtain ⟨hx, hxs⟩ := List.forall_mem_cons.1 h
    rw [Memory.writeAll_cons, Memory.writeAll_cons, ih _ hxs, Memory.writeAll_write m _ hx]

/-- No data cell is a finder cell (R151, R154). -/
theorem isDataKey_eq_false_of_isFinderKey {c : SizeClass} {key : Nat} (h : isFinderKey c key = true) :
    isDataKey c key = false := by
  obtain ⟨-, hf⟩ := (Bool.and_eq_true _ _).mp h
  rw [isDataKey, ← Option.not_isSome, hf, Bool.not_true, Bool.and_false]

/-- The finder is drawn before or after writes to data cells (R153, R154). -/
theorem writeAll_finderWrites_comm {c : SizeClass} (hc : c ∈ sizeRom) (g : Memory) {cells : List Host.Cell}
    (h : ∀ cell ∈ cells, isDataKey c cell.1 = true) :
    Memory.writeAll (Memory.writeAll g (finderWrites c)) cells =
      Memory.writeAll (Memory.writeAll g cells) (finderWrites c) := by
  refine Memory.writeAll_comm g fun x hx y hy hkey => ?_
  have hdata := isDataKey_eq_false_of_isFinderKey (isFinderKey_finderWrites hc x hx)
  rw [hkey, h y hy] at hdata
  cases hdata

/-! ### The walk on a state with the finder drawn -/

/-- What PL_FINDER leaves: the finder drawn and the command completed (R153). -/
def State.finderDone (c : SizeClass) (s : State) : State := complete (plFinderBody c s)

theorem exec_plFinder_eq {s : State} {c : SizeClass} (hc : s.sizeClass? = some c) :
    exec .plFinder s = .next (s.finderDone c) := withClass_some hc _

theorem andThen_mapNext {g : State → State} {f : State → Result} (hf : ∀ u, f (g u) = mapNext g (f u)) (r : Result) :
    andThen (mapNext g r) f = mapNext g (andThen r f) := by
  cases r with
  | next u => exact hf u
  | fault x | refused x => rfl

section Finder

variable {c : SizeClass} {s : State} (hc : c ∈ sizeRom)

theorem endWalk_finderDone : endWalk c (s.finderDone c) = mapNext (·.finderDone c) (endWalk c s) := by
  rw [endWalk, endWalk, apply_ite (mapNext _)]
  rfl

include hc

theorem finderDone_writeGrid {cells : List Host.Cell} (h : ∀ cell ∈ cells, isDataKey c cell.1 = true) :
    (s.finderDone c).setGrid (Memory.writeAll (s.finderDone c).grid cells) =
      (s.setGrid (Memory.writeAll s.grid cells)).finderDone c :=
  congrArg (complete s).setGrid (writeAll_finderWrites_comm hc s.grid h)

theorem microStep_finderDone : microStep c (s.finderDone c) = mapNext (·.finderDone c) (microStep c s) := by
  rcases microStep_cases c s with ⟨hw, he⟩ | ⟨w, hw, hs, he⟩ | ⟨w, tag, hw, hs, hv, he⟩ | ⟨w, tag, v, hw, hs, hv, -⟩
  · rw [he]
    exact microStep_unreachable (s := s.finderDone c) hw
  · rw [he]
    exact microStep_quiet (s := s.finderDone c) hw hs
  · rw [he]
    exact microStep_uninit (s := s.finderDone c) hw hs hv
  · obtain ⟨-, -, -, hrow, hcol, m, m', -, -, hassign⟩ := microStep_of_select_some hs hw
    rw [← hrow, ← hcol] at hassign
    rw [microStep_places hw hs hv, microStep_places (s := s.finderDone c) hw hs hv, State.withCodeword,
      finderDone_writeGrid hc (isDataKey_placeWrites hc (assignCells_inMatrix hassign))]
    rfl

theorem repeatUntil_finderDone (stop : Walk → Bool) (n : Nat) :
    repeatUntil c stop n (s.finderDone c) = mapNext (·.finderDone c) (repeatUntil c stop n s) := by
  induction n generalizing s with
  | zero => rfl
  | succ n ih =>
    rw [repeatUntil, microStep_finderDone hc, andThen_mapNext fun u => ?_, repeatUntil]
    rw [ih, apply_ite (mapNext _)]
    rfl

theorem plFixupBody_finderDone : plFixupBody c (s.finderDone c) = mapNext (·.finderDone c) (plFixupBody c s) := by
  rw [plFixupBody, plFixupBody, show (s.finderDone c).walk = s.walk from rfl]
  cases s.walk.mask with
  | none => rfl
  | some m =>
    rw [finderDone_writeGrid hc (isDataKey_fixupWrites hc), apply_ite (mapNext _)]
    rfl

/-- The walk of PL_RUN makes the same moves and writes on a state with the finder drawn (R153, R170). -/
theorem plRunBody_finderDone : plRunBody c (s.finderDone c) = mapNext (·.finderDone c) (plRunBody c s) := by
  have hrun := repeatUntil_finderDone (s := plStartBody s) hc Walk.atEnd s.walkBound
  have hend (u : State) : andThen (endWalk c (u.finderDone c)) (plFixupBody c) =
      mapNext (·.finderDone c) (andThen (endWalk c u) (plFixupBody c)) := by
    rw [endWalk_finderDone, andThen_mapNext fun _ => plFixupBody_finderDone hc]
  exact (congrArg (andThen · _) hrun).trans (andThen_mapNext hend _)

end Finder

/-! ### The two orders of PL_FINDER and PL_RUN (R248) -/

theorem exec_plRun_eq_next {s t : State} {c : SizeClass} (hc : s.sizeClass? = some c) :
    exec .plRun s = .next t ↔ ∃ u, plRunBody c s = .next u ∧ t = complete u := by
  simp only [exec_plRun_eq hc, andThen_eq_next, succeed_eq_next]

/-- A sequence whose first command raises an error does not run clean. -/
theorem not_cleanRun_of_raiseError {i : Instr} {is : List Instr} {s t : State} {e : ErrCode} (he : e ≠ .none)
    (h : exec i s = raiseError e s) : ¬ CleanRun (i :: is) s t := by
  rintro ⟨u, hu, hnone, -⟩
  obtain rfl := raiseError_eq_next.1 (h.symm.trans hu)
  exact he hnone

section Orders

variable {s t : State} {c : SizeClass} (hc : s.sizeClass? = some c)

include hc

theorem cleanRun_finder_run_iff : CleanRun [.plFinder, .plRun] s t ↔
    ∃ u, plRunBody c s = .next u ∧ t = (complete u).finderDone c := by
  have hrun := exec_plRun_eq_next (s := s.finderDone c) hc (t := t)
  constructor
  · rintro ⟨_, hf, -, _, ht, -, rfl⟩
    cases (exec_plFinder_eq hc).symm.trans hf
    obtain ⟨_, hbody, rfl⟩ := hrun.1 ht
    rw [plRunBody_finderDone (sizeClass_mem hc)] at hbody
    obtain ⟨u, hu, rfl⟩ := mapNext_eq_next.1 hbody
    exact ⟨u, hu, rfl⟩
  · rintro ⟨u, hu, rfl⟩
    have hbody : plRunBody c (s.finderDone c) = .next (u.finderDone c) := by
      rw [plRunBody_finderDone (sizeClass_mem hc), hu, mapNext_next]
    exact ⟨_, exec_plFinder_eq hc, rfl, _, hrun.2 ⟨_, hbody, rfl⟩, rfl, rfl⟩

theorem cleanRun_run_finder_iff : CleanRun [.plRun, .plFinder] s t ↔
    ∃ u, plRunBody c s = .next u ∧ t = (complete u).finderDone c := by
  have hfinder {u : State} (hu : plRunBody c s = .next u) :
      exec .plFinder (complete u) = .next ((complete u).finderDone c) :=
    exec_plFinder_eq (s := complete u) ((sizeClass_of_outside (plRunBody_outside hu)).trans hc)
  constructor
  · rintro ⟨_, hr, -, _, ht, -, rfl⟩
    obtain ⟨u, hu, rfl⟩ := (exec_plRun_eq_next hc).1 hr
    exact ⟨u, hu, Host.Outcome.next.inj (ht.symm.trans (hfinder hu))⟩
  · rintro ⟨u, hu, rfl⟩
    exact ⟨_, (exec_plRun_eq_next hc).2 ⟨u, hu, rfl⟩, rfl, _, hfinder hu, rfl, rfl⟩

end Orders

/-! ### The reset state (R241) -/

theorem getD_toList_replicate_zero (n k : Nat) : (Vector.replicate n (0 : Byte)).toList.getD k 0 = 0 := by
  rw [Vector.toList_replicate, List.getD_eq_getElem?_getD, List.getElem?_getD_replicate_default_eq]

/-- The reset state is what a reset event leaves with no memory kept (R240, R241). -/
theorem reset_eq_resetTo : State.reset = resetTo [] [] none State.reset := rfl

end Sys2Proof.Machine

open Sys2Proof Sys2Proof.Machine Sys2Proof.Claims

/-- Settles O33: with a class both orders end in PL_RUN's state with the finder drawn, because PL_FINDER writes no data
cell and PL_RUN no other; without one both fail with BAD_SIZE. -/
theorem finderAndWalkCommute : Obligations.FinderAndWalkCommute := by
  intro s t _
  cases hc : s.sizeClass? with
  | none =>
    exact iff_of_false (not_cleanRun_of_raiseError (e := .badSize) (by decide) (withClass_none hc _))
      (not_cleanRun_of_raiseError (e := .badSize) (by decide) (withClass_none hc _))
  | some c => exact (cleanRun_finder_run_iff hc).trans (cleanRun_run_finder_iff hc).symm

/-- Settles O53: each register is evaluated; the register arrays hold 0 at every index and the memories are empty. -/
theorem resetValues : Obligations.ResetValues := by
  refine ⟨by decide, by decide, by decide, by decide, by decide, by decide, by decide, by decide, by decide, by decide,
    by decide, by decide, by decide, by decide, fun k _ => ?_, fun k _ => ⟨?_, ?_⟩,
    rfl, rfl, rfl, rfl, rfl, rfl, rfl, rfl, rfl, rfl, rfl, rfl, rfl, fun _ => rfl, fun _ _ => rfl⟩
  all_goals exact congrArg (fun b : Byte => some (b.setWidth 32)) (getD_toList_replicate_zero _ k)

/-- Settles O57: the reset state is what a reset event leaves with empty memories, which meets the invariant and the
ranges. -/
theorem invariantHoldsAtReset : Obligations.InvariantHoldsAtReset := by
  rw [Obligations.InvariantHoldsAtReset, reset_eq_resetTo]
  exact ⟨inv_resetTo rfl rfl, inRange_resetTo _ _ _ _⟩

end
